-- ==== Sys2Proof/Word.lean ====
section
/-! DEFINITION. The word types: the 8-bit byte of the sensor register space and of the byte buffers (R24, R60), and the
32-bit word that a host write carries and a host read returns (R96). -/

namespace Sys2Proof

/-- One byte: a sensor register, a buffer byte, a command byte. -/
abbrev Byte := BitVec 8

/-- The 32-bit data word of the host port (R96). -/
abbrev Word := BitVec 32

end Sys2Proof
end

