-- ==== Sys2Proof/Syntax.lean ====
section
/-! DEFINITION. The syntax: the twelve operations (R92), the host registers by name (R96), host actions (R240), and the
transactions of the bus port (R61, R69). -/

namespace Sys2Proof

/-- The operations of R92, one constructor per row of the opcode table. None has operand fields (R91). -/
inductive Instr where
  | nop
  | init
  | measure
  | clrerr
  | caldec
  | flddec
  | compt
  | compp
  | comph
  | compg
  | heatr
  | heatd
deriving DecidableEq, Repr

/-- The host registers of R96, by name. -/
inductive HostReg where
  | cmd | stat | err | rejc | polls
  | osT | osP | osH | filter | ambTemp | gasEn | heatTemp | heatDur | resHeat | gasWait
  | parT1 | parT2 | parT3
  | parP1 | parP2 | parP3 | parP4 | parP5 | parP6 | parP7 | parP8 | parP9 | parP10
  | parH1 | parH2 | parH3 | parH4 | parH5 | parH6 | parH7
  | parG1 | parG2 | parG3 | resHeatRange | resHeatVal | rangeSwError
  | tFine
  | rawPress | rawTemp | rawHum | rawGas | rawRange | rawStatus | rawGasIndex | rawMeasIndex
  | outTemp | outPress | outHum | outGas | outStatus | outGasIndex | outMeasIndex | outRng
  | calbuf (i : Fin 41)
  | auxbuf (i : Fin 3)
  | fldbuf (i : Fin 15)
deriving DecidableEq, Repr

/-- The operations, in the order of R92. -/
def Instr.all : List Instr :=
  [.nop, .init, .measure, .clrerr, .caldec, .flddec, .compt, .compp, .comph, .compg, .heatr, .heatd]

/-- The named host registers, in the order of R96. -/
def HostReg.named : List HostReg :=
  [.cmd, .stat, .err, .rejc, .polls, .osT, .osP, .osH, .filter, .ambTemp, .gasEn, .heatTemp, .heatDur, .resHeat, .gasWait,
    .parT1, .parT2, .parT3, .parP1, .parP2, .parP3, .parP4, .parP5, .parP6, .parP7, .parP8, .parP9, .parP10,
    .parH1, .parH2, .parH3, .parH4, .parH5, .parH6, .parH7, .parG1, .parG2, .parG3, .resHeatRange, .resHeatVal,
    .rangeSwError, .tFine, .rawPress, .rawTemp, .rawHum, .rawGas, .rawRange, .rawStatus, .rawGasIndex, .rawMeasIndex,
    .outTemp, .outPress, .outHum, .outGas, .outStatus, .outGasIndex, .outMeasIndex, .outRng]

/-- The host registers that hold a byte of a buffer, in the order of R96. -/
def HostReg.buffered : List HostReg :=
  (List.finRange 41).map HostReg.calbuf ++ (List.finRange 3).map HostReg.auxbuf ++ (List.finRange 15).map HostReg.fldbuf

/-- The host registers, in the order of R96. -/
def HostReg.all : List HostReg := HostReg.named ++ HostReg.buffered

/-- A host action (R240): a read of a host register number, or a write of a 32-bit word to one. A write to number 0 is a
command write. -/
inductive HostAction where
  | read (hr : BitVec 8)
  | write (hr : BitVec 8) (data : Word)
deriving DecidableEq, Repr

/-- A transaction of the bus port (R61): `read_registers(addr, count)` or `write_registers(addr, bytes)`. -/
inductive BusOp where
  | read (addr : Byte) (count : Nat)
  | write (addr : Byte) (bytes : List Byte)
deriving DecidableEq, Repr

/-- The answer to a transaction (R62, R63): the bytes of a read (none for a write), or `Error`. -/
inductive BusReply where
  | ok (bytes : List Byte)
  | error
deriving DecidableEq, Repr

/-- One line of a bus trace (R126). -/
structure Transaction where
  op : BusOp
  reply : BusReply
deriving DecidableEq, Repr

end Sys2Proof
end

