-- ==== Sys2Proof/Machine/State.lean ====
section
/-! DEFINITION. The state of the block (R20), the environment's part of the state (R9 to R11), the reasons a step can stop, and
the state after reset (R54, R291). -/

namespace Sys2Proof.Machine

/-- Why the machine stops. -/
inductive Fault where
  /-- Raised by a micro-step whose `(SEQ.state, SEQ.step)` is in no table of R205 to R222 (such as `Configuring` step 9). Safe:
  the spec gives that pair no micro-step, and no run reaches it (log entry 17). -/
  | noMicroStep
deriving DecidableEq, Repr

/-- Why the model gives no meaning. -/
inductive Refusal where
  /-- Raised by an arm of `exec` whose instruction has no meaning yet. Safe. No arm raises it now. -/
  | notModelled (mnemonic : String)
deriving DecidableEq, Repr

/-- The sequencer's states (R44, R98, R200); code 7 is unreachable and has no constructor (U19). -/
inductive SeqState where
  | idle
  | init
  | configuring
  | triggered
  | polling
  | dataReady
  | timedOut
deriving DecidableEq, Repr

/-- The outcome codes of `ERR` (R260). -/
inductive ErrCode where
  | ok
  | communicationError
  | unexpectedDeviceId
  | noNewData
  | rangeError
deriving DecidableEq, Repr

/-- The rejection causes of `REJC` (R270). -/
inductive RejCause where
  | none
  | busy
  | badCommand
  | notReady
  | badRegister
  | badValue
deriving DecidableEq, Repr

/-- The configuration registers `CFG.*` (R22). -/
structure CfgRegs where
  osT : BitVec 3
  osP : BitVec 3
  osH : BitVec 3
  filter : BitVec 3
  /-- signed, degrees Celsius -/
  ambTemp : BitVec 8
  gasEn : Bool
  /-- degrees Celsius -/
  heatTemp : BitVec 16
  /-- milliseconds -/
  heatDur : BitVec 16
  /-- heater resistance code, written by the block only -/
  resHeat : BitVec 8
  /-- heater duration code, written by the block only -/
  gasWait : BitVec 8
deriving DecidableEq, Repr

/-- The 26 calibration coefficient registers `CAL.*` (R26), each as its bits; Operands.lean reads them with their sign. -/
structure CalRegs where
  parT1 : BitVec 16
  parT2 : BitVec 16
  parT3 : BitVec 8
  parP1 : BitVec 16
  parP2 : BitVec 16
  parP3 : BitVec 8
  parP4 : BitVec 16
  parP5 : BitVec 16
  parP6 : BitVec 8
  parP7 : BitVec 8
  parP8 : BitVec 16
  parP9 : BitVec 16
  parP10 : BitVec 8
  parH1 : BitVec 12
  parH2 : BitVec 12
  parH3 : BitVec 8
  parH4 : BitVec 8
  parH5 : BitVec 8
  parH6 : BitVec 8
  parH7 : BitVec 8
  parG1 : BitVec 8
  parG2 : BitVec 16
  parG3 : BitVec 8
  resHeatRange : BitVec 2
  resHeatVal : BitVec 8
  rangeSwError : BitVec 4
deriving DecidableEq, Repr

/-- The raw sample registers `RAW.*` (R30). -/
structure RawRegs where
  press : BitVec 20
  temp : BitVec 20
  hum : BitVec 16
  gas : BitVec 10
  range : BitVec 4
  newData : Bool
  gasValid : Bool
  heatStab : Bool
  gasIndex : BitVec 4
  measIndex : BitVec 8
deriving DecidableEq, Repr

/-- The result registers `OUT.*` (R34). -/
structure OutRegs where
  /-- signed, 0.01 degree Celsius -/
  temp : BitVec 32
  /-- signed, pascal -/
  press : BitVec 32
  /-- signed, 0.001 percent -/
  hum : BitVec 32
  /-- unsigned, ohm -/
  gas : BitVec 32
  /-- bit 7 new-data, bit 5 gas-valid, bit 4 heater-stable -/
  status : BitVec 8
  gasIndex : BitVec 4
  measIndex : BitVec 8
  /-- bit 0 temperature, 1 pressure, 2 humidity out of band, 3 pressure divisor zero -/
  rng : BitVec 4
deriving DecidableEq, Repr

/-- The sequencer registers (R44), the block's control position. -/
structure SeqRegs where
  state : SeqState
  step : BitVec 4
  polls : BitVec 8
deriving DecidableEq, Repr

/-- The listed contents of the sensor register space: address and byte, addresses strictly rising. An address that is not
listed has a content nobody knows: log entry 4. -/
abbrev Memory := List Host.Cell

/-- What the environment does next (R9 to R11, R290): log entry 2. -/
inductive Input where
  /-- the host's next action (R240) -/
  | host (a : HostAction)
  /-- the sequencer's next micro-step is taken; `fails` says whether its bus transaction, if it makes one, fails (R82) -/
  | turn (fails : Bool)
  /-- the sensor, or another user of the bus, changes a sensor register (R10, R11) -/
  | sensor (addr : Byte) (value : Byte)
  /-- time passes, in milliseconds (R276) -/
  | time (ms : Nat)
  /-- the event `Reset` (R290) -/
  | reset
deriving DecidableEq, Repr

/-- What a host read was given (R243). -/
structure HostAnswer where
  hr : BitVec 8
  data : Word
deriving DecidableEq, Repr

/-- The state: the block's registers (R20), its delay timer (R276), and the environment's part. -/
structure State where
  cfg : CfgRegs
  calbuf : Vector Byte 41
  auxbuf : Vector Byte 3
  fldbuf : Vector Byte 15
  cal : CalRegs
  calValid : Bool
  raw : RawRegs
  rawValid : Bool
  /-- `T_FINE`, signed (R32) -/
  tFine : BitVec 32
  tfineValid : Bool
  out : OutRegs
  outValid : Bool
  seq : SeqRegs
  err : ErrCode
  done : Bool
  rej : Bool
  rejc : RejCause
  /-- the delay timer: not running, or the milliseconds since it was started (R276, R291) -/
  timer : Option Nat
  /-- the sensor register space (R60, R65) -/
  sensor : Memory
  /-- the model's own: what the environment does next (log entry 2) -/
  inputs : List Input
  /-- the model's own: the bus transactions made so far, newest first (log entry 10) -/
  trace : List Transaction
  /-- the model's own: what the latest host read was given (log entry 10) -/
  answer : Option HostAnswer
  /-- the model's own: the counter the free values are applied to (log entry 9) -/
  draws : Nat
deriving DecidableEq, Repr

/-- `CFG.*` after reset: unspecified by R54; zero is a DESIGN CHOICE (log entry 1). -/
def CfgRegs.reset : CfgRegs where
  osT := 0
  osP := 0
  osH := 0
  filter := 0
  ambTemp := 0
  gasEn := false
  heatTemp := 0
  heatDur := 0
  resHeat := 0
  gasWait := 0

/-- `CAL.*` after reset: unspecified by R54; zero is a DESIGN CHOICE (log entry 1). -/
def CalRegs.reset : CalRegs where
  parT1 := 0
  parT2 := 0
  parT3 := 0
  parP1 := 0
  parP2 := 0
  parP3 := 0
  parP4 := 0
  parP5 := 0
  parP6 := 0
  parP7 := 0
  parP8 := 0
  parP9 := 0
  parP10 := 0
  parH1 := 0
  parH2 := 0
  parH3 := 0
  parH4 := 0
  parH5 := 0
  parH6 := 0
  parH7 := 0
  parG1 := 0
  parG2 := 0
  parG3 := 0
  resHeatRange := 0
  resHeatVal := 0
  rangeSwError := 0

/-- `RAW.*` after reset: unspecified by R54; zero is a DESIGN CHOICE (log entry 1). -/
def RawRegs.reset : RawRegs where
  press := 0
  temp := 0
  hum := 0
  gas := 0
  range := 0
  newData := false
  gasValid := false
  heatStab := false
  gasIndex := 0
  measIndex := 0

/-- `OUT.*` after reset: `OUT.rng` is 0 by R35; zero for the others is a DESIGN CHOICE (log entry 1). -/
def OutRegs.reset : OutRegs where
  temp := 0
  press := 0
  hum := 0
  gas := 0
  status := 0
  gasIndex := 0
  measIndex := 0
  rng := 0

/-- The state after reset (R54, R291). The sensor's register space lists nothing, and the environment has done nothing and has
nothing scheduled. -/
def State.reset : State where
  cfg := CfgRegs.reset
  calbuf := Vector.replicate 41 0
  auxbuf := Vector.replicate 3 0
  fldbuf := Vector.replicate 15 0
  cal := CalRegs.reset
  calValid := false
  raw := RawRegs.reset
  rawValid := false
  tFine := 0
  tfineValid := false
  out := OutRegs.reset
  outValid := false
  seq := ⟨.idle, 0, 0⟩
  err := .ok
  done := false
  rej := false
  rejc := .none
  timer := none
  sensor := []
  inputs := []
  trace := []
  answer := none
  draws := 0

end Sys2Proof.Machine
end

