-- ==== Sys2Proof/Machine/Codes.lean ====
section
/-! DEFINITION. The last row of R12: command codes, host register numbers and error codes, as parameters (decisions D2, D3, D4).
The decoders and encoders (Decode.lean) and the views of the codes (Flags.lean) take them from here. -/

namespace Sys2Proof.Config

/-- The command code of an operation (R92, D3). -/
def commandCode : Instr → Byte
  | .nop => 0x00
  | .init => 0x01
  | .measure => 0x02
  | .clrerr => 0x03
  | .caldec => 0x10
  | .flddec => 0x11
  | .compt => 0x20
  | .compp => 0x21
  | .comph => 0x22
  | .compg => 0x23
  | .heatr => 0x30
  | .heatd => 0x31

/-- The host register number of a register (R96, D2). -/
def hostRegNumber : HostReg → BitVec 8
  | .cmd => 0x00
  | .stat => 0x01
  | .err => 0x02
  | .rejc => 0x03
  | .polls => 0x04
  | .osT => 0x08
  | .osP => 0x09
  | .osH => 0x0A
  | .filter => 0x0B
  | .ambTemp => 0x0C
  | .gasEn => 0x0D
  | .heatTemp => 0x0E
  | .heatDur => 0x0F
  | .resHeat => 0x10
  | .gasWait => 0x11
  | .parT1 => 0x20
  | .parT2 => 0x21
  | .parT3 => 0x22
  | .parP1 => 0x23
  | .parP2 => 0x24
  | .parP3 => 0x25
  | .parP4 => 0x26
  | .parP5 => 0x27
  | .parP6 => 0x28
  | .parP7 => 0x29
  | .parP8 => 0x2A
  | .parP9 => 0x2B
  | .parP10 => 0x2C
  | .parH1 => 0x2D
  | .parH2 => 0x2E
  | .parH3 => 0x2F
  | .parH4 => 0x30
  | .parH5 => 0x31
  | .parH6 => 0x32
  | .parH7 => 0x33
  | .parG1 => 0x34
  | .parG2 => 0x35
  | .parG3 => 0x36
  | .resHeatRange => 0x37
  | .resHeatVal => 0x38
  | .rangeSwError => 0x39
  | .tFine => 0x3F
  | .rawPress => 0x40
  | .rawTemp => 0x41
  | .rawHum => 0x42
  | .rawGas => 0x43
  | .rawRange => 0x44
  | .rawStatus => 0x45
  | .rawGasIndex => 0x46
  | .rawMeasIndex => 0x47
  | .outTemp => 0x50
  | .outPress => 0x51
  | .outHum => 0x52
  | .outGas => 0x53
  | .outStatus => 0x54
  | .outGasIndex => 0x55
  | .outMeasIndex => 0x56
  | .outRng => 0x57
  | .calbuf i => BitVec.ofNat 8 (0x80 + i.val)
  | .auxbuf i => BitVec.ofNat 8 (0xA9 + i.val)
  | .fldbuf i => BitVec.ofNat 8 (0xB0 + i.val)

/-- The code of `ERR` (R260, D4). -/
def errCode : Machine.ErrCode → BitVec 3
  | .ok => 0
  | .communicationError => 1
  | .unexpectedDeviceId => 2
  | .noNewData => 3
  | .rangeError => 4

/-- The code of `REJC` (R270, D4). -/
def rejCauseCode : Machine.RejCause → BitVec 3
  | .none => 0
  | .busy => 1
  | .badCommand => 2
  | .notReady => 3
  | .badRegister => 4
  | .badValue => 5

/-- The code of `SEQ.state` (R98). -/
def seqStateCode : Machine.SeqState → BitVec 3
  | .idle => 0
  | .init => 1
  | .configuring => 2
  | .triggered => 3
  | .polling => 4
  | .dataReady => 5
  | .timedOut => 6

end Sys2Proof.Config
end

