-- ==== Sys2Proof/Config.lean ====
section
/-! DEFINITION. What an implementation fixes: the types of the parameters of R12, and the FREE VALUES (constants without a
body: nothing can be proved of what they answer). The parameters' values stand in Sys2Proof/Machine/Params.lean (numbers and
layouts), Codes.lean (command codes, host register numbers, error codes) and Polys.lean (the polynomial bodies). -/

namespace Sys2Proof

/-! ### Operand records of the parameter bodies -/

/-- The temperature coefficients as numbers (R26). -/
structure TempCoefs where
  t1 : Int
  t2 : Int
  t3 : Int
deriving DecidableEq, Repr

/-- The pressure coefficients as numbers (R26). -/
structure PressCoefs where
  p1 : Int
  p2 : Int
  p3 : Int
  p4 : Int
  p5 : Int
  p6 : Int
  p7 : Int
  p8 : Int
  p9 : Int
  p10 : Int
deriving DecidableEq, Repr

/-- The humidity coefficients as numbers (R26). -/
structure HumCoefs where
  h1 : Int
  h2 : Int
  h3 : Int
  h4 : Int
  h5 : Int
  h6 : Int
  h7 : Int
deriving DecidableEq, Repr

/-- The heater coefficients as numbers (R26). -/
structure HeatCoefs where
  g1 : Int
  g2 : Int
  g3 : Int
  rng : Int
  val : Int
deriving DecidableEq, Repr

end Sys2Proof

namespace Sys2Proof.Config

/-- `OVF32` (R12, R170): what a 32-bit intermediate does on overflow. -/
inductive Ovf32 where
  /-- two's-complement reduction, the default -/
  | wrap
  /-- any signed 32-bit value -/
  | draw
deriving DecidableEq, Repr

/-- `PRESS_BRANCH` (R12, R171, conflict C1): which order the final pressure division takes above the threshold. -/
inductive PressBranch where
  /-- above the threshold divide first, then double; the default -/
  | overflowSafe
  /-- the source's sentence taken literally -/
  | asWorded
deriving DecidableEq, Repr

/-- The two offsets in `CALBUF` of a 16-bit coefficient (R110: `hi = lo + 1`). -/
structure BytePair where
  lo : Fin 41
  hi : Fin 41
deriving DecidableEq, Repr

/-- `CAL_LAYOUT` (R12, R111, R112): the byte offset in `CALBUF` of every coefficient held there. -/
structure CalLayout where
  parT1 : BytePair
  parT2 : BytePair
  parT3 : Fin 41
  parP1 : BytePair
  parP2 : BytePair
  parP3 : Fin 41
  parP4 : BytePair
  parP5 : BytePair
  parP6 : Fin 41
  parP7 : Fin 41
  parP8 : BytePair
  parP9 : BytePair
  parP10 : Fin 41
  /-- `M1`: the upper eight bits of `par_h1` -/
  h1Upper : Fin 41
  /-- `M2`: the upper eight bits of `par_h2` -/
  h2Upper : Fin 41
  /-- `S`: low nibble `par_h1[3:0]`, high nibble `par_h2[3:0]` -/
  hShared : Fin 41
  parH3 : Fin 41
  parH4 : Fin 41
  parH5 : Fin 41
  parH6 : Fin 41
  parH7 : Fin 41
  parG1 : Fin 41
  parG2 : BytePair
  parG3 : Fin 41
deriving DecidableEq, Repr

/-- `FIELD_LAYOUT` (R12, R116): the byte of every raw field in `FLDBUF`, and, in the shared bytes, the bit position of every
field (of a field of several bits, its lowest). -/
structure FieldLayout where
  /-- the status byte, with `new_data` and `gas_index` -/
  status : Fin 15
  measIndex : Fin 15
  /-- bits 19:12, 11:4 and (from bit `pressLoBit` of its byte on) 3:0 of the pressure code -/
  pressHi : Fin 15
  pressMid : Fin 15
  pressLo : Fin 15
  tempHi : Fin 15
  tempMid : Fin 15
  tempLo : Fin 15
  humHi : Fin 15
  humLo : Fin 15
  /-- `gas[9:2]` -/
  gasHi : Fin 15
  /-- `gas[1:0]`, `gas_valid`, `heat_stab` and `range` -/
  gasLo : Fin 15
  newDataBit : Fin 8
  /-- lowest of the four bits of `gas_index` in the status byte -/
  gasIndexBit : Fin 8
  pressLoBit : Fin 8
  tempLoBit : Fin 8
  /-- lowest of the two bits of `gas[1:0]` -/
  gasLoBit : Fin 8
  gasValidBit : Fin 8
  heatStabBit : Fin 8
  /-- lowest of the four bits of `range` -/
  rangeBit : Fin 8
deriving DecidableEq, Repr

/-! ### Polynomial bodies (R12, D29, U17)

A body that has 32-bit nodes takes `n`: `n site v` is `w32` of the exact value `v` at the numbered site (R16, R170). -/

/-- `PRESS_POLY` (R169, R170): the lines of the pressure function that the source does not give. The zero divisor, the threshold
and the two orders of the division (P11) are the source's and the spec's: they are no part of it. -/
structure PressPoly where
  /-- P1 to P8: the divisor `var1` and `var2`, from `t_fine` and the coefficients -/
  front : (n : Nat → Int → Int) → (tFine : Int) → PressCoefs → Int × Int
  /-- P9 and P10: the in-progress value that the threshold is compared with, from the raw code and `var2` -/
  scaled : (n : Nat → Int → Int) → (adc var2 : Int) → Int
  /-- P12 to P15: the result, from the quotient and the coefficients -/
  back : (n : Nat → Int → Int) → (p : Int) → PressCoefs → Int

/-- `HUM_POLY` (R176): the humidity function's steps H0 to H7, from the raw code, `t_fine` and the coefficients. -/
structure HumPoly where
  body : (n : Nat → Int → Int) → (adc tFine : Int) → HumCoefs → Int

/-- `HEAT_POLY` (R191): the heater resistance formula's steps K1 to K7, from the capped target temperature, the ambient
temperature and the coefficients. The cap K0 and the reduction to eight bits are no part of it. -/
structure HeatPoly where
  body : (t amb : Int) → HeatCoefs → Int

/-! ### Free values

Each is applied to `State.draws`, a counter the model advances, so that two uses are unrelated. -/

/-- `OUT.press` after a zero pressure divisor (R172: unspecified). Log entry 8. -/
opaque freePress : Nat → BitVec 32

/-- `OUT.gas` where the gas divisor is zero (R183; it cannot be with the tables of R181). Log entry 8. -/
opaque freeGas : Nat → BitVec 32

/-- The 32-bit value drawn at a numbered overflow site under `OVF32 = draw` (R170). Log entry 11. -/
opaque freeOverflow : Nat → Nat → BitVec 32

/-- What the sensor answers for a register address whose content the state does not list (R10, U6). Log entry 4. -/
opaque freeSensorByte : Nat → Nat → Byte

/-- Whether a transaction fails when `State.inputs` does not say (R10, R82, U6). Log entry 6. -/
opaque freeBusFails : Nat → Bool

/-- How many further milliseconds pass in one step of an unscheduled wait (R218: the delay is a lower bound). Log entry 14. -/
opaque freeWaitMs : Nat → Nat

end Sys2Proof.Config
end

