-- ==== Sys2Proof/Machine/Params.lean ====
section
/-! DEFINITION. The values of the parameters of R12 that are numbers, layouts or tables. Those the spec marks as general
knowledge (layouts, tables, three addresses, mode codes) are log entry 18. -/

namespace Sys2Proof.Config

/-- Maximum number of status reads in one `Polling` phase. -/
def pollMax : Nat := 10
/-- Lower bound on the wait between two status reads. -/
def pollDelayMs : Nat := 10
/-- Maximum number of soft-reset reads in `INIT`; `none` is unbounded (D9). Log entry 13. -/
def resetPollMax : Option Nat := none
/-- Lower bound on the wait between two soft-reset reads. -/
def resetPollDelayMs : Nat := 10
def chipId : Byte := 0x61
def resetKey : Byte := 0xB6

def addrChipId : Byte := 0xD0
def addrReset : Byte := 0xE0
def addrCal1 : Byte := 0x89
def lenCal1 : Nat := 25
def addrCal2 : Byte := 0xE1
def lenCal2 : Nat := 16
def addrCtrlHum : Byte := 0x72
def addrCtrlMeas : Byte := 0x74
def addrConfig : Byte := 0x75
def addrResHeat0 : Byte := 0x5A
def addrGasWait0 : Byte := 0x64
def addrCtrlGas1 : Byte := 0x71
def addrField : Byte := 0x1D
def lenField : Nat := 15
def addrStatus : Byte := 0x1D
def addrResHeatRange : Byte := 0x02
def addrResHeatVal : Byte := 0x00
def addrRangeSwErr : Byte := 0x04

def modeSleep : BitVec 2 := 0b00
def modeForced : BitVec 2 := 0b01
/-- Heater profile index written to `ctrl_gas_1` bits 3:0 (D13). -/
def nbConv : BitVec 4 := 0

def ovf32 : Ovf32 := .wrap
def pressBranch : PressBranch := .overflowSafe

/-- `LUT1` (R181). -/
def lut1 : Vector Nat 16 := #v[
  2147483647, 2147483647, 2147483647, 2147483647, 2147483647, 2126008810, 2147483647, 2130303777,
  2147483647, 2147483647, 2143188679, 2136746228, 2147483647, 2126008810, 2147483647, 2147483647]

/-- `LUT2` (R181). -/
def lut2 : Vector Nat 16 := #v[
  4096000000, 2048000000, 1024000000, 512000000, 255744255, 127110228, 64000000, 32258064,
  16016016, 8000000, 4000000, 2000000, 1000000, 500000, 250000, 125000]

/-- `CAL_LAYOUT` (R111, R112). -/
def calLayout : CalLayout where
  parT1 := ⟨33, 34⟩
  parT2 := ⟨1, 2⟩
  parT3 := 3
  parP1 := ⟨5, 6⟩
  parP2 := ⟨7, 8⟩
  parP3 := 9
  parP4 := ⟨11, 12⟩
  parP5 := ⟨13, 14⟩
  parP6 := 16
  parP7 := 15
  parP8 := ⟨19, 20⟩
  parP9 := ⟨21, 22⟩
  parP10 := 23
  h1Upper := 27
  h2Upper := 25
  hShared := 26
  parH3 := 28
  parH4 := 29
  parH5 := 30
  parH6 := 31
  parH7 := 32
  parG1 := 37
  parG2 := ⟨35, 36⟩
  parG3 := 38

/-- `FIELD_LAYOUT` (R116, R118, R119). -/
def fieldLayout : FieldLayout where
  status := 0
  measIndex := 1
  pressHi := 2
  pressMid := 3
  pressLo := 4
  tempHi := 5
  tempMid := 6
  tempLo := 7
  humHi := 8
  humLo := 9
  gasHi := 13
  gasLo := 14
  newDataBit := 7
  gasIndexBit := 0
  pressLoBit := 4
  tempLoBit := 4
  gasLoBit := 6
  gasValidBit := 5
  heatStabBit := 4
  rangeBit := 0

end Sys2Proof.Config
end

