-- ==== Sys2Proof/WellFormed.lean ====
section
/-! DEFINITION. The checks on terms. An operation has no operand fields (R91), so every term of `Instr` is well-formed; what
can be ill-formed is a bus transaction (R69, R106, R120), a host register number (R97) and a parameter value (R12). -/

namespace Sys2Proof

/-- Every operation is well-formed: it has no operand that could be out of range (R91). -/
def Instr.wf : Instr → Bool
  | .nop => true
  | .init => true
  | .measure => true
  | .clrerr => true
  | .caldec => true
  | .flddec => true
  | .compt => true
  | .compp => true
  | .comph => true
  | .compg => true
  | .heatr => true
  | .heatd => true

/-- The one-byte writes of R69, each with the bits its register's format leaves open: the reset key (R109), the bits written 0
(R100, R102, R103, R120) and the mode codes that are never written (R106). -/
def BusOp.writeOk (addr b : Byte) : Bool :=
  if addr = Config.addrReset then b = Config.resetKey
  else if addr = Config.addrCtrlHum then b.extractLsb' 3 5 = 0
  else if addr = Config.addrCtrlMeas then
    b.extractLsb' 0 2 = Config.modeSleep || b.extractLsb' 0 2 = Config.modeForced
  else if addr = Config.addrConfig then b.extractLsb' 5 3 = 0 && b.extractLsb' 0 2 = 0
  else if addr = Config.addrCtrlGas1 then b.extractLsb' 5 3 = 0
  else addr = Config.addrResHeat0 || addr = Config.addrGasWait0

/-- The reads of R69: which lengths at which addresses. -/
def BusOp.readOk (addr : Byte) (count : Nat) : Bool :=
  (count = 1 &&
      (addr = Config.addrReset || addr = Config.addrChipId || addr = Config.addrStatus ||
        addr = Config.addrResHeatRange || addr = Config.addrResHeatVal || addr = Config.addrRangeSwErr)) ||
    (addr = Config.addrCal1 && count = Config.lenCal1) ||
    (addr = Config.addrCal2 && count = Config.lenCal2) ||
    (addr = Config.addrField && count = Config.lenField)

/-- The transactions the block can issue (R69): no other length or address is ever used. -/
def BusOp.wf : BusOp → Bool
  | .read addr count => BusOp.readOk addr count
  | .write addr bytes =>
    match bytes with
    | [b] => BusOp.writeOk addr b
    | _ => false

/-- A trace line's reply fits its transaction: a successful read returns exactly `count` bytes (R62), a write none. -/
def Transaction.wf (t : Transaction) : Bool :=
  t.op.wf &&
    match t.op, t.reply with
    | .read _ count, .ok bytes => bytes.length = count
    | .write _ _, .ok bytes => bytes.isEmpty
    | _, .error => true

/-- Command codes: no two operations have the same (R92). -/
def Config.commandCodesOk (code : Instr → Byte) : Bool := (Instr.all.map code).Nodup

/-- Host register numbers: no two registers have the same (R96). -/
def Config.hostRegNumbersOk (number : HostReg → BitVec 8) : Bool := (HostReg.all.map number).Nodup

/-- A finite `RESET_POLL_MAX` lies in 1..255 (R205). -/
def Config.resetPollMaxOk : Option Nat → Bool
  | none => true
  | some m => 1 ≤ m && m ≤ 255

/-- `POLL_MAX` is at least 1 and fits the 8-bit `SEQ.polls` (R44, R216). -/
def Config.pollMaxOk (m : Nat) : Bool := 1 ≤ m && m ≤ 255

/-- A pair of offsets is adjacent, least significant byte first (R110). -/
def Config.BytePair.ok (p : Config.BytePair) : Bool := p.hi.val = p.lo.val + 1

/-- The 33 offsets that a calibration layout uses. -/
def Config.CalLayout.offsets (l : Config.CalLayout) : List (Fin 41) :=
  [l.parT1.lo, l.parT1.hi, l.parT2.lo, l.parT2.hi, l.parT3,
    l.parP1.lo, l.parP1.hi, l.parP2.lo, l.parP2.hi, l.parP3, l.parP4.lo, l.parP4.hi, l.parP5.lo, l.parP5.hi,
    l.parP6, l.parP7, l.parP8.lo, l.parP8.hi, l.parP9.lo, l.parP9.hi, l.parP10,
    l.h1Upper, l.h2Upper, l.hShared, l.parH3, l.parH4, l.parH5, l.parH6, l.parH7,
    l.parG1, l.parG2.lo, l.parG2.hi, l.parG3]

/-- A calibration layout: pairs adjacent (R110) and no byte used twice (R139: every input bit affects one coefficient). -/
def Config.CalLayout.wf (l : Config.CalLayout) : Bool :=
  [l.parT1, l.parT2, l.parP1, l.parP2, l.parP4, l.parP5, l.parP8, l.parP9, l.parG2].all Config.BytePair.ok &&
    l.offsets.Nodup

/-- The bits of a byte that fields of the given lowest bits and widths take. -/
def Config.fieldBits (fields : List (Fin 8 × Nat)) : List Nat :=
  fields.flatMap fun f => (List.range f.2).map fun i => f.1.val + i

/-- The fields of one byte lie in its eight bits and share none of them. -/
def Config.fieldBitsOk (fields : List (Fin 8 × Nat)) : Bool :=
  (Config.fieldBits fields).Nodup && (Config.fieldBits fields).all fun b => b < 8

/-- A field layout: no byte used twice, and in each shared byte no bit used twice (R116, R118, R152). -/
def Config.FieldLayout.wf (l : Config.FieldLayout) : Bool :=
  [l.status, l.measIndex, l.pressHi, l.pressMid, l.pressLo, l.tempHi, l.tempMid, l.tempLo, l.humHi, l.humLo,
      l.gasHi, l.gasLo].Nodup &&
    (Config.fieldBitsOk [(l.newDataBit, 1), (l.gasIndexBit, 4)] && Config.fieldBitsOk [(l.pressLoBit, 4)] &&
      Config.fieldBitsOk [(l.tempLoBit, 4)] &&
      Config.fieldBitsOk [(l.gasLoBit, 2), (l.gasValidBit, 1), (l.heatStabBit, 1), (l.rangeBit, 4)])

end Sys2Proof
end

