-- ==== Sys2Proof/Decode.lean ====
section
/-! DEFINITION. The decoders of the host port, total on any bits, and the encoders: the command word (R91 to R93), the host
register number (R96, R97) and the 41-bit notation of a host action (R94). The codes and numbers are parameters (R12,
Machine/Codes.lean); the decoders search for the one that has the code. -/

namespace Sys2Proof

/-- Why a command word is no operation. -/
inductive DecodeError where
  /-- one of the 244 reserved byte values, or a word above 0xFF (R93, R242) -/
  | badCommand
deriving DecidableEq, Repr

/-- The command byte's operation (R92); `none` for a code that no operation has (R93). -/
def decodeByte (c : Byte) : Option Instr := Instr.all.find? fun i => Config.commandCode i = c

/-- The operation of a command write's data: all 32 bits count (R242: a word above 0xFF is no command). -/
def decodeCommand (data : Word) : Except DecodeError Instr :=
  if data.toNat ≤ 0xFF then
    match decodeByte (data.setWidth 8) with
    | some i => .ok i
    | none => .error .badCommand
  else .error .badCommand

/-- The command byte of an operation (R92). -/
def encode (i : Instr) : Byte := Config.commandCode i

/-- The data word of the command write that starts an operation. -/
def encodeCommand (i : Instr) : Word := (encode i).setWidth 32

/-- The operation group in the command byte's high nibble (R91). -/
def groupOf (c : Byte) : BitVec 4 := c.extractLsb' 4 4

/-- The host's question: the instruction read from an instruction whose bits are `w`; the bits above `nbits` are 0. -/
def decodeTableWord (nbits w : Nat) : Option Instr :=
  match decodeCommand (BitVec.ofNat 32 (w % 2 ^ nbits)) with
  | .ok i => some i
  | .error _ => none

/-- The register a host register number names; `none` for the reserved numbers, which no register has (R96, R97). -/
def decodeHostReg (hr : BitVec 8) : Option HostReg := HostReg.all.find? fun r => Config.hostRegNumber r = hr

/-- The host register number of a register (R96). -/
def encodeHostReg (r : HostReg) : BitVec 8 := Config.hostRegNumber r

/-- A host register number that R97 does not reserve. -/
def hostRegNumberOk (hr : BitVec 8) : Bool := (decodeHostReg hr).isSome

/-- The 41-bit word of a host action (R94): `rw`, `hr`, `data`, the data zero for a read. -/
def encodeHostWord : HostAction → BitVec 41
  | .read hr => 0#1 ++ hr ++ 0#32
  | .write hr data => 1#1 ++ hr ++ data

/-- The host action of a 41-bit word (R94). A read whose data is not zero is no word of the notation: log entry 16. -/
def decodeHostWord (w : BitVec 41) : Option HostAction :=
  if w.extractLsb' 40 1 = 1#1 then some (.write (w.extractLsb' 32 8) (w.extractLsb' 0 32))
  else if w.extractLsb' 0 32 = 0#32 then some (.read (w.extractLsb' 32 8))
  else none

end Sys2Proof
end

