-- ==== Sys2Proof/Machine/Arith.lean ====
section
/-! DEFINITION. The arithmetic of R15 and R16 on mathematical integers. -/

namespace Sys2Proof.Machine

/-- `shl(v, n) = v * 2^n` (R15). -/
def shl (v : Int) (n : Nat) : Int := v * 2 ^ n

/-- `asr(v, n) = floor(v / 2^n)` (R15): rounds toward minus infinity. -/
def asr (v : Int) (n : Nat) : Int := Int.fdiv v (2 ^ n)

/-- `tdiv(a, b)`: the quotient rounded toward zero (R15). -/
def tdiv (a b : Int) : Int := Int.tdiv a b

/-- `zext_N(v) = v mod 2^N` (R15). -/
def zext (n : Nat) (v : Int) : Int := Int.emod v (2 ^ n)

/-- `sext_N(v)`: the signed reading of the low `N` bits of `v` (R15), for `N` at least 1. Written with the value moved up by
`2^(N-1)` and back; `sext_eq_reading` (Laws/Arith.lean) is R15's own case form. -/
def sext (n : Nat) (v : Int) : Int := zext n (v + 2 ^ (n - 1)) - 2 ^ (n - 1)

/-- `w32(v) = sext_32(v)` (R15). -/
def w32 (v : Int) : Int := sext 32 v

/-- Whether a value is a signed 32-bit value. -/
def fits32 (v : Int) : Bool := -2 ^ 31 ≤ v && v < 2 ^ 31

/-- What a 32-bit node at a numbered site yields (R16, R170): reduction under `wrap`; under `draw` any 32-bit value where the
exact one does not fit (a free value of this use `k`, log entry 11). -/
def narrow32 (mode : Config.Ovf32) (k site : Nat) (v : Int) : Int :=
  match mode with
  | .wrap => w32 v
  | .draw => if fits32 v then v else (Config.freeOverflow k site).toInt

end Sys2Proof.Machine
end

