-- ==== Sys2Proof/Machine/Ops.lean ====
section
/-! DEFINITION. The shared operations: the sensor register space, the bus port (R60 to R64), the byte buffers, accepting,
rejecting and ending an operation (R246, R247, R268), and the delay timer (R276). -/

namespace Sys2Proof.Machine

/-! ### The sensor register space -/

/-- The listed content of one register address; `none` where its content is not known (log entry 4). -/
def Memory.get? : Memory → Nat → Option Byte
  | [], _ => none
  | (k, b) :: m, a => if k = a then some b else Memory.get? m a

/-- The register at `a` holds `v`. Keeps the addresses strictly rising. -/
def Memory.set : Memory → Nat → Byte → Memory
  | [], a, v => [(a, v)]
  | (k, b) :: m, a, v =>
    if a < k then (a, v) :: (k, b) :: m
    else if a = k then (a, v) :: m
    else (k, b) :: Memory.set m a v

/-- Only the registers whose address satisfies `p` stay listed; the content of the others is no longer known. -/
def Memory.keep (m : Memory) (p : Nat → Bool) : Memory := m.filter fun c => p c.1

/-- The addresses of a memory rise strictly from `lo` on and stay in the 8-bit space. -/
def Memory.risingFrom : Nat → Memory → Bool
  | _, [] => true
  | lo, (k, _) :: m => lo ≤ k && k < 256 && Memory.risingFrom (k + 1) m

/-- The canonical form: addresses strictly rising, all 8-bit (R60). An unlisted address has no value of its own, so no entry
can equal it (log entry 4). -/
def Memory.wf (m : Memory) : Bool := Memory.risingFrom 0 m

/-- Registers whose reads R70 calls not idempotent over time: the soft-reset register, `ctrl_meas`, the field block. -/
def volatileAddr (a : Nat) : Bool :=
  a = Config.addrReset.toNat || a = Config.addrCtrlMeas.toNat ||
    (Config.addrField.toNat ≤ a && a < Config.addrField.toNat + Config.lenField)

/-- Registers that R70 takes to be constant for a given sensor: the chip id and the calibration registers. -/
def constantAddr (a : Nat) : Bool :=
  a = Config.addrChipId.toNat ||
    (Config.addrCal1.toNat ≤ a && a < Config.addrCal1.toNat + Config.lenCal1) ||
    (Config.addrCal2.toNat ≤ a && a < Config.addrCal2.toNat + Config.lenCal2) ||
    a = Config.addrResHeatRange.toNat || a = Config.addrResHeatVal.toNat || a = Config.addrRangeSwErr.toNat

/-- What is still known of the sensor after a read of `n` registers from `a`: not the volatile ones read (R70, R305: whether
a read changes them is open). Log entry 5. -/
def Memory.afterRead (m : Memory) (a n : Nat) : Memory :=
  m.keep fun k => !(a ≤ k && k < a + n && volatileAddr k)

/-- What is still known of the sensor after a write to `a` that may or may not have been taken (R63). After a write to the
soft-reset register only the constant registers (R70, R292), after a write to `ctrl_meas`, which may start a conversion, not
the volatile ones (R50, R70). Log entries 5 and 7. -/
def Memory.afterWriteAttempt (m : Memory) (a : Nat) : Memory :=
  if a = Config.addrReset.toNat then m.keep constantAddr
  else if a = Config.addrCtrlMeas.toNat then m.keep fun k => !volatileAddr k
  else m.keep fun k => !(k = a)

/-- What is known of the sensor after a successful write of `v` to `a`: the byte is in the register, unless the register is one
that changes by itself (R50, R70). -/
def Memory.afterWrite (m : Memory) (a : Nat) (v : Byte) : Memory :=
  if volatileAddr a then m.afterWriteAttempt a else (m.afterWriteAttempt a).set a v

/-! ### The bus port -/

/-- The byte a successful read of register `a` answers: the listed content, else any byte (R10, U6: a free value). -/
def sensorByte (s : State) (a : Nat) : Byte := (s.sensor.get? a).getD (Config.freeSensorByte s.draws a)

/-- The bytes of a successful burst read: byte `i` is register `addr + i` (R64). -/
def burst (s : State) (addr : Byte) (n : Nat) : List Byte :=
  (List.range n).map fun i => sensorByte s (addr.toNat + i)

/-- The state after `MemRead(addr, n)` (R62), without what the micro-step does with the answer. -/
def afterBusRead (s : State) (fails : Bool) (addr : Byte) (n : Nat) : State :=
  { s with
    sensor := s.sensor.afterRead addr.toNat n
    trace := ⟨.read addr n, if fails then .error else .ok (burst s addr n)⟩ :: s.trace
    draws := s.draws + 1 }

/-- The state after `MemWrite(addr, 1, [b])` (R63), without what the micro-step does with the answer. -/
def afterBusWrite (s : State) (fails : Bool) (addr b : Byte) : State :=
  { s with
    sensor := if fails then s.sensor.afterWriteAttempt addr.toNat else s.sensor.afterWrite addr.toNat b
    trace := ⟨.write addr [b], if fails then .error else .ok []⟩ :: s.trace
    draws := s.draws + 1 }

/-! ### Byte buffers -/

/-- The buffer with the bytes `bs` from offset `at` on (R24). -/
def loadBytes {n : Nat} (buf : Vector Byte n) (start : Nat) (bs : List Byte) : Vector Byte n :=
  Vector.ofFn fun i : Fin n => if start ≤ i.val then bs.getD (i.val - start) buf[i] else buf[i]

/-! ### Operations: acceptance, rejection, end -/

/-- `BUSY = (SEQ.state != Idle)` (R44). -/
def State.busy (s : State) : Bool := s.seq.state ≠ .idle

/-- `reject(c)` (R246): `REJ <- 1`, `REJC <- c`, nothing else. -/
def reject (c : RejCause) (s : State) : State := { s with rej := true, rejc := c }

/-- The acceptance of an operation other than `NOP` (R242 (5), R247): `DONE` = 0 and `ERR` = `OK` from here to its end. -/
def accept (s : State) : State := { s with done := false, err := .ok }

/-- The end of an operation with outcome `e`: `raise E` of R268 for an error, and the same registers for `OK` (R206, R222): `ERR`,
`DONE`, and, if a sequence was running, the sequencer back in `Idle` step 0. Nothing is saved and no vector is fetched. -/
def endOperation (e : ErrCode) (s : State) : State :=
  { s with
    err := e
    done := true
    seq := if s.busy then { s.seq with state := .idle, step := 0 } else s.seq }

/-- The nearest thing to a return from an error (R269: there is no return instruction): `CLRERR` clears the outcome and the
rejection (R245). -/
def clearOutcome (s : State) : State := { s with err := .ok, done := false, rej := false, rejc := .none }

/-- The common acceptance of every operation but `NOP` (R242): `Busy` first, then `NotReady`, else accepted. -/
def acceptOr (ready : State → Bool) (body : State → State) (s : State) : State :=
  if s.busy then reject .busy s
  else if ready s then body (accept s)
  else reject .notReady s

/-! ### Micro-steps with one transaction -/

/-- A micro-step that reads (R62, R203): on `Error` the sequence ends with `CommunicationError` and nothing else is written. -/
def readStep (s : State) (fails : Bool) (addr : Byte) (n : Nat) (k : List Byte → State → State) : State :=
  if fails then endOperation .communicationError (afterBusRead s true addr n)
  else k (burst s addr n) (afterBusRead s false addr n)

/-- A micro-step that writes one byte (R63, R69, R203). -/
def writeStep (s : State) (fails : Bool) (addr b : Byte) (k : State → State) : State :=
  if fails then endOperation .communicationError (afterBusWrite s true addr b)
  else k (afterBusWrite s false addr b)

/-- `SEQ.state <- st`, `SEQ.step <- n`. -/
def goto (st : SeqState) (n : BitVec 4) (s : State) : State := { s with seq := { s.seq with state := st, step := n } }

/-! ### The delay timer -/

/-- The timer is started by a poll that must be repeated (R276). -/
def startTimer (s : State) : State := { s with timer := some 0 }

/-- Time passes: a running timer counts it (R276). -/
def passTime (ms : Nat) (s : State) : State := { s with timer := s.timer.map (· + ms) }

/-- At least `bound` milliseconds have passed since the timer was started (R218). -/
def delayElapsed (bound : Nat) (s : State) : Bool :=
  match s.timer with
  | none => false
  | some ms => bound ≤ ms

/-- One free value has been used: the next one is unrelated (log entry 9). -/
def State.nextDraw (s : State) : State := { s with draws := s.draws + 1 }

end Sys2Proof.Machine
end

