-- ==== Sys2Proof/Machine/Operands.lean ====
section
/-! DEFINITION. How operations read their operands: coefficient registers with the signedness of R26, the operand records of
the compensation and heater functions, and the control bytes composed from `CFG.*` (R100 to R108). -/

namespace Sys2Proof.Machine

/-! ### Signed and unsigned reads of a register (R26, R96) -/

/-- An unsigned register's value. -/
def uval {n : Nat} (v : BitVec n) : Int := v.toNat

/-- A signed register's value. -/
def sval {n : Nat} (v : BitVec n) : Int := v.toInt

/-- The value stored in a register is reduced to its width (R17). -/
def store (n : Nat) (v : Int) : BitVec n := BitVec.ofInt n v

/-! ### Operand records -/

/-- `par_t1` unsigned, `par_t2`, `par_t3` signed (R26). -/
def tempCoefs (c : CalRegs) : TempCoefs where
  t1 := uval c.parT1
  t2 := sval c.parT2
  t3 := sval c.parT3

/-- `par_p1`, `par_p10` unsigned, the others signed (R26). -/
def pressCoefs (c : CalRegs) : PressCoefs where
  p1 := uval c.parP1
  p2 := sval c.parP2
  p3 := sval c.parP3
  p4 := sval c.parP4
  p5 := sval c.parP5
  p6 := sval c.parP6
  p7 := sval c.parP7
  p8 := sval c.parP8
  p9 := sval c.parP9
  p10 := uval c.parP10

/-- `par_h1`, `par_h2`, `par_h6` unsigned, the others signed (R26). -/
def humCoefs (c : CalRegs) : HumCoefs where
  h1 := uval c.parH1
  h2 := uval c.parH2
  h3 := sval c.parH3
  h4 := sval c.parH4
  h5 := sval c.parH5
  h6 := uval c.parH6
  h7 := sval c.parH7

/-- `res_heat_range` unsigned, the others signed (R26). -/
def heatCoefs (c : CalRegs) : HeatCoefs where
  g1 := sval c.parG1
  g2 := sval c.parG2
  g3 := sval c.parG3
  rng := uval c.resHeatRange
  val := sval c.resHeatVal

/-! ### The control bytes (R100 to R103) -/

/-- `ctrl_hum` (R100). -/
def ctrlHumByte (c : CfgRegs) : Byte := 0#5 ++ c.osH

/-- `ctrl_meas` (R101). -/
def ctrlMeasByte (c : CfgRegs) (mode : BitVec 2) : Byte := c.osT ++ c.osP ++ mode

/-- `config` (R102). -/
def configByte (c : CfgRegs) : Byte := 0#3 ++ c.filter ++ 0#2

/-- `ctrl_gas_1` with gas enabled (R103, R208 step 5). -/
def ctrlGasOnByte : Byte := 0#3 ++ 1#1 ++ Config.nbConv

/-- `ctrl_gas_1` with gas disabled (R209). -/
def ctrlGasOffByte : Byte := 0x00

/-! ### What an operation needs to be accepted (R161, R190, R207, R248) -/

/-- No valid flag is needed. -/
def needsNothing (_ : State) : Bool := true

/-- `CAL.valid` is needed. -/
def needsCal (s : State) : Bool := s.calValid

/-- `CAL.valid` and `RAW.valid` are needed. -/
def needsCalRaw (s : State) : Bool := s.calValid && s.rawValid

/-- `CAL.valid`, `RAW.valid` and `TFINE.valid` are needed. -/
def needsCalRawTfine (s : State) : Bool := s.calValid && s.rawValid && s.tfineValid

end Sys2Proof.Machine
end

