-- ==== Sys2Proof/Machine/Flags.lean ====
section
/-! DEFINITION. Flags and codes: the bits of `OUT.rng` (R34, R35), the bands (R162, R174, R179), the outcome they give (R264),
the status bytes (R34, R96), the numeric codes (R98, R260, R270) and the view `STAT` (R48). -/

namespace Sys2Proof.Machine

/-- One bit of `OUT.rng` written, the others kept (R35). -/
def setRng (i : Fin 4) (b : Bool) (rng : BitVec 4) : BitVec 4 :=
  if b then rng ||| (1#4 <<< i.val) else rng &&& ~~~(1#4 <<< i.val)

/-- `OUT.rng[0]`: the temperature is outside -4000..8500 (R162). -/
def tempOutOfBand (t : Int) : Bool := t < -4000 || 8500 < t

/-- `OUT.rng[1]`: the pressure is outside 30000..110000 (R174). -/
def pressOutOfBand (p : Int) : Bool := p < 30000 || 110000 < p

/-- `OUT.rng[2]`: the humidity is outside 0..100000 (R179). -/
def humOutOfBand (h : Int) : Bool := h < 0 || 100000 < h

/-- `RangeError` if a flag is set, else `OK` (R162, R168, R175). -/
def rangeOutcome (flag : Bool) : ErrCode := if flag then .rangeError else .ok

/-- The outcome of a cycle: `RangeError` if any of `OUT.rng[0]`, `[1]`, `[2]` is set (R185, R222). -/
def cycleOutcome (rng : BitVec 4) : ErrCode := rangeOutcome (rng.getLsbD 0 || rng.getLsbD 1 || rng.getLsbD 2)

/-- A status byte: bit 7 new-data, bit 5 gas-valid, bit 4 heater-stable, other bits 0 (R34, R96, R180). -/
def statusByte (newData gasValid heatStab : Bool) : Byte :=
  BitVec.ofBool newData ++ 0#1 ++ BitVec.ofBool gasValid ++ BitVec.ofBool heatStab ++ 0#4

/-- The status byte of a raw sample: `RAW.status` (R96), copied to `OUT.status` by the gas operation (R180). -/
def rawStatus (r : RawRegs) : Byte := statusByte r.newData r.gasValid r.heatStab

/-- The code of `SEQ.state` (R98). -/
def SeqState.code (st : SeqState) : BitVec 3 := Config.seqStateCode st

/-- The code of `ERR` (R260). -/
def ErrCode.code (e : ErrCode) : BitVec 3 := Config.errCode e

/-- The code of `REJC` (R270). -/
def RejCause.code (c : RejCause) : BitVec 3 := Config.rejCauseCode c

/-- The view `STAT` (R48). -/
def stat (s : State) : BitVec 16 :=
  0#2 ++ s.seq.step ++ BitVec.ofBool s.outValid ++ BitVec.ofBool s.tfineValid ++ BitVec.ofBool s.rawValid ++
    BitVec.ofBool s.calValid ++ BitVec.ofBool s.rej ++ BitVec.ofBool s.done ++ BitVec.ofBool s.busy ++ s.seq.state.code

/-- The valid flags of everything computed from the coefficients or the raw sample are cleared (R32, R34, R131, R150). -/
def invalidateResults (s : State) : State := { s with tfineValid := false, outValid := false }

end Sys2Proof.Machine
end

