-- ==== Sys2Proof/Machine/HostPort.lean ====
section
/-! DEFINITION. The host port (R240 to R250): the housekeeping operations `NOP` and `CLRERR`, register reads, register writes. -/

namespace Sys2Proof.Machine

/-! ### Housekeeping -/

/-- `NOP` (R244): accepted in every state, no effect. -/
def execNop (s : State) : Host.Outcome State Fault Refusal := .next s

/-- `CLRERR` (R245): the only accepted operation beside `NOP` that does not end with `DONE` = 1. -/
def execClrerr (s : State) : Host.Outcome State Fault Refusal := .next (acceptOr needsNothing clearOutcome s)

/-! ### Reads (R243) -/

/-- An unsigned register in a host word: zero-extended (R96). -/
def zextWord {n : Nat} (v : BitVec n) : Word := v.setWidth 32

/-- A signed register in a host word: sign-extended (R96). -/
def sextWord {n : Nat} (v : BitVec n) : Word := v.signExtend 32

/-- A register's value as a host read returns it (R96, R243). -/
def readReg (s : State) : HostReg → Word
  | .cmd => 0
  | .stat => zextWord (stat s)
  | .err => zextWord s.err.code
  | .rejc => zextWord s.rejc.code
  | .polls => zextWord s.seq.polls
  | .osT => zextWord s.cfg.osT
  | .osP => zextWord s.cfg.osP
  | .osH => zextWord s.cfg.osH
  | .filter => zextWord s.cfg.filter
  | .ambTemp => sextWord s.cfg.ambTemp
  | .gasEn => zextWord (BitVec.ofBool s.cfg.gasEn)
  | .heatTemp => zextWord s.cfg.heatTemp
  | .heatDur => zextWord s.cfg.heatDur
  | .resHeat => zextWord s.cfg.resHeat
  | .gasWait => zextWord s.cfg.gasWait
  | .parT1 => zextWord s.cal.parT1
  | .parT2 => sextWord s.cal.parT2
  | .parT3 => sextWord s.cal.parT3
  | .parP1 => zextWord s.cal.parP1
  | .parP2 => sextWord s.cal.parP2
  | .parP3 => sextWord s.cal.parP3
  | .parP4 => sextWord s.cal.parP4
  | .parP5 => sextWord s.cal.parP5
  | .parP6 => sextWord s.cal.parP6
  | .parP7 => sextWord s.cal.parP7
  | .parP8 => sextWord s.cal.parP8
  | .parP9 => sextWord s.cal.parP9
  | .parP10 => zextWord s.cal.parP10
  | .parH1 => zextWord s.cal.parH1
  | .parH2 => zextWord s.cal.parH2
  | .parH3 => sextWord s.cal.parH3
  | .parH4 => sextWord s.cal.parH4
  | .parH5 => sextWord s.cal.parH5
  | .parH6 => zextWord s.cal.parH6
  | .parH7 => sextWord s.cal.parH7
  | .parG1 => sextWord s.cal.parG1
  | .parG2 => sextWord s.cal.parG2
  | .parG3 => sextWord s.cal.parG3
  | .resHeatRange => zextWord s.cal.resHeatRange
  | .resHeatVal => sextWord s.cal.resHeatVal
  | .rangeSwError => sextWord s.cal.rangeSwError
  | .tFine => s.tFine
  | .rawPress => zextWord s.raw.press
  | .rawTemp => zextWord s.raw.temp
  | .rawHum => zextWord s.raw.hum
  | .rawGas => zextWord s.raw.gas
  | .rawRange => zextWord s.raw.range
  | .rawStatus => zextWord (rawStatus s.raw)
  | .rawGasIndex => zextWord s.raw.gasIndex
  | .rawMeasIndex => zextWord s.raw.measIndex
  | .outTemp => s.out.temp
  | .outPress => s.out.press
  | .outHum => s.out.hum
  | .outGas => s.out.gas
  | .outStatus => zextWord s.out.status
  | .outGasIndex => zextWord s.out.gasIndex
  | .outMeasIndex => zextWord s.out.measIndex
  | .outRng => zextWord s.out.rng
  | .calbuf i => zextWord s.calbuf[i]
  | .auxbuf i => zextWord s.auxbuf[i]
  | .fldbuf i => zextWord s.fldbuf[i]

/-- What `HostRead(hr)` returns (R243): 0 for a reserved number (R97). -/
def hostRead (s : State) (hr : BitVec 8) : Word :=
  match decodeHostReg hr with
  | some r => readReg s r
  | none => 0

/-! ### Writes (R241) -/

/-- The registers whose access is `RW*` (R96, R241). -/
def writable : HostReg → Bool
  | .osT => true
  | .osP => true
  | .osH => true
  | .filter => true
  | .ambTemp => true
  | .gasEn => true
  | .heatTemp => true
  | .heatDur => true
  | .calbuf _ => true
  | .auxbuf _ => true
  | .fldbuf _ => true
  | .cmd | .stat | .err | .rejc | .polls | .resHeat | .gasWait => false
  | .parT1 | .parT2 | .parT3 => false
  | .parP1 | .parP2 | .parP3 | .parP4 | .parP5 | .parP6 | .parP7 | .parP8 | .parP9 | .parP10 => false
  | .parH1 | .parH2 | .parH3 | .parH4 | .parH5 | .parH6 | .parH7 => false
  | .parG1 | .parG2 | .parG3 | .resHeatRange | .resHeatVal | .rangeSwError | .tFine => false
  | .rawPress | .rawTemp | .rawHum | .rawGas | .rawRange | .rawStatus | .rawGasIndex | .rawMeasIndex => false
  | .outTemp | .outPress | .outHum | .outGas | .outStatus | .outGasIndex | .outMeasIndex | .outRng => false

/-- The legal values of a writable register (R96, R104, R241 (3)); no value is legal for the others. -/
def legalValue (data : Word) : HostReg → Bool
  | .osT | .osP | .osH => data.toNat ≤ 5
  | .filter => data.toNat ≤ 7
  | .ambTemp => -128 ≤ data.toInt && data.toInt ≤ 127
  | .gasEn => data.toNat ≤ 1
  | .heatTemp | .heatDur => data.toNat ≤ 0xFFFF
  | .calbuf _ | .auxbuf _ | .fldbuf _ => data.toNat ≤ 0xFF
  | .cmd | .stat | .err | .rejc | .polls | .resHeat | .gasWait => false
  | .parT1 | .parT2 | .parT3 => false
  | .parP1 | .parP2 | .parP3 | .parP4 | .parP5 | .parP6 | .parP7 | .parP8 | .parP9 | .parP10 => false
  | .parH1 | .parH2 | .parH3 | .parH4 | .parH5 | .parH6 | .parH7 => false
  | .parG1 | .parG2 | .parG3 | .resHeatRange | .resHeatVal | .rangeSwError | .tFine => false
  | .rawPress | .rawTemp | .rawHum | .rawGas | .rawRange | .rawStatus | .rawGasIndex | .rawMeasIndex => false
  | .outTemp | .outPress | .outHum | .outGas | .outStatus | .outGasIndex | .outMeasIndex | .outRng => false

/-- The register takes the value (R241 (4)); a register that is not writable takes none. -/
def writeReg (data : Word) (s : State) : HostReg → State
  | .osT => { s with cfg := { s.cfg with osT := data.setWidth 3 } }
  | .osP => { s with cfg := { s.cfg with osP := data.setWidth 3 } }
  | .osH => { s with cfg := { s.cfg with osH := data.setWidth 3 } }
  | .filter => { s with cfg := { s.cfg with filter := data.setWidth 3 } }
  | .ambTemp => { s with cfg := { s.cfg with ambTemp := data.setWidth 8 } }
  | .gasEn => { s with cfg := { s.cfg with gasEn := data.getLsbD 0 } }
  | .heatTemp => { s with cfg := { s.cfg with heatTemp := data.setWidth 16 } }
  | .heatDur => { s with cfg := { s.cfg with heatDur := data.setWidth 16 } }
  | .calbuf i => { s with calbuf := s.calbuf.set i (data.setWidth 8) }
  | .auxbuf i => { s with auxbuf := s.auxbuf.set i (data.setWidth 8) }
  | .fldbuf i => { s with fldbuf := s.fldbuf.set i (data.setWidth 8) }
  | .cmd | .stat | .err | .rejc | .polls | .resHeat | .gasWait => s
  | .parT1 | .parT2 | .parT3 => s
  | .parP1 | .parP2 | .parP3 | .parP4 | .parP5 | .parP6 | .parP7 | .parP8 | .parP9 | .parP10 => s
  | .parH1 | .parH2 | .parH3 | .parH4 | .parH5 | .parH6 | .parH7 => s
  | .parG1 | .parG2 | .parG3 | .resHeatRange | .resHeatVal | .rangeSwError | .tFine => s
  | .rawPress | .rawTemp | .rawHum | .rawGas | .rawRange | .rawStatus | .rawGasIndex | .rawMeasIndex => s
  | .outTemp | .outPress | .outHum | .outGas | .outStatus | .outGasIndex | .outMeasIndex | .outRng => s

/-- A register write whose number names a writable register: `Busy`, then `BadValue`, else the value is taken (R241). -/
def writeWritable (r : HostReg) (data : Word) (s : State) : State :=
  if s.busy then reject .busy s
  else if legalValue data r then writeReg data s r
  else reject .badValue s

/-- `HostWrite(hr, data)` for `hr` other than 0 (R241): `BadRegister` comes first. -/
def hostWrite (hr : BitVec 8) (data : Word) (s : State) : State :=
  match decodeHostReg hr with
  | some r => if writable r then writeWritable r data s else reject .badRegister s
  | none => reject .badRegister s

/-- A command write whose data is no operation (R242): `Busy` comes before `BadCommand`. -/
def rejectCommand (s : State) : State := if s.busy then reject .busy s else reject .badCommand s

/-- A host read is accepted in every state and changes no register of the block: the host is given the value (R243). -/
def answerRead (hr : BitVec 8) (s : State) : State := { s with answer := some ⟨hr, hostRead s hr⟩ }

end Sys2Proof.Machine
end

