-- ==== Sys2Proof/Machine/Calibration.lean ====
section
/-! DEFINITION. The calibration-coefficient decoder (R130 to R141) and the operation `CALDEC`; the inverse packing of R132 and
R139 for the statements about it. -/

namespace Sys2Proof.Machine

/-- `{C[hi], C[lo]}` (R110, R133). -/
def pairAt (buf : Vector Byte 41) (p : Config.BytePair) : BitVec 16 := buf[p.hi] ++ buf[p.lo]

/-- A 12-bit humidity coefficient: its own byte above one nibble of the shared byte (R112, R135). -/
def nibblePair (upper : Byte) (nibble : BitVec 4) : BitVec 12 := upper ++ nibble

/-- `CalDecode(C, A)` (R130), over the layout of R111. The registers hold the bits; R26's sign is read by Operands.lean. -/
def calDecode (l : Config.CalLayout) (buf : Vector Byte 41) (aux : Vector Byte 3) : CalRegs where
  parT1 := pairAt buf l.parT1
  parT2 := pairAt buf l.parT2
  parT3 := buf[l.parT3]
  parP1 := pairAt buf l.parP1
  parP2 := pairAt buf l.parP2
  parP3 := buf[l.parP3]
  parP4 := pairAt buf l.parP4
  parP5 := pairAt buf l.parP5
  parP6 := buf[l.parP6]
  parP7 := buf[l.parP7]
  parP8 := pairAt buf l.parP8
  parP9 := pairAt buf l.parP9
  parP10 := buf[l.parP10]
  parH1 := nibblePair buf[l.h1Upper] (buf[l.hShared].extractLsb' 0 4)
  parH2 := nibblePair buf[l.h2Upper] (buf[l.hShared].extractLsb' 4 4)
  parH3 := buf[l.parH3]
  parH4 := buf[l.parH4]
  parH5 := buf[l.parH5]
  parH6 := buf[l.parH6]
  parH7 := buf[l.parH7]
  parG1 := buf[l.parG1]
  parG2 := pairAt buf l.parG2
  parG3 := buf[l.parG3]
  resHeatRange := aux[0].extractLsb' 4 2
  resHeatVal := aux[1]
  rangeSwError := aux[2].extractLsb' 4 4

/-- The coefficients take the decode of the buffers and are valid (R131, R206). -/
def decodeCoefficients (s : State) : State :=
  { s with cal := calDecode Config.calLayout s.calbuf s.auxbuf, calValid := true }

/-- `CALDEC` once accepted (R131). -/
def caldecBody (s : State) : State := endOperation .ok (invalidateResults (decodeCoefficients s))

/-- `CALDEC` (R131, R242). -/
def execCaldec (s : State) : Host.Outcome State Fault Refusal := .next (acceptOr needsNothing caldecBody s)

/-- The packing of the humidity pair: the bytes `M2`, `S`, `M1` (V-CAL-4, the inverse of R112). -/
def packHumidity (h1 h2 : BitVec 12) : Byte × Byte × Byte :=
  (h2.extractLsb' 4 8, h2.extractLsb' 0 4 ++ h1.extractLsb' 0 4, h1.extractLsb' 4 8)

end Sys2Proof.Machine
end

