-- ==== Sys2Proof/Machine/Polys.lean ====
section
/-! DEFINITION. The polynomial bodies of R12: the values of the parameters `PRESS_POLY`, `HUM_POLY`, `HEAT_POLY`. The source does
not give them; the spec supplies them from general knowledge (G1, G2, G3; log entry 18). A device's own formula is put in here,
and the functions that take them (Compensation.lean, Heater.lean) stay as they are. -/

namespace Sys2Proof.Machine

/-- Steps P1 to P8 (R170): `(var1, var2)` before the division. `n site v` is `w32` of the site. -/
def pressFront (n : Nat → Int → Int) (tFine : Int) (c : PressCoefs) : Int × Int :=
  let var1 := n 1 (asr tFine 1 - 64000)
  let sq := n 2 (asr var1 2 * asr var1 2)
  let var2 := asr (n 3 (asr sq 11 * c.p6)) 2
  let var2 := n 4 (var2 + shl (var1 * c.p5) 1)
  let var2 := n 5 (asr var2 2 + shl c.p4 16)
  let var1 := n 8 (asr (n 6 (asr sq 13 * shl c.p3 5)) 3 + asr (n 7 (c.p2 * var1)) 1)
  let var1 := asr var1 18
  let var1 := asr (n 9 ((32768 + var1) * c.p1)) 15
  (var1, var2)

/-- Steps P9 and P10 (R170): the value that the threshold of R171 is compared with. -/
def pressScaled (n : Nat → Int → Int) (adc var2 : Int) : Int :=
  let p := 1048576 - adc
  n 10 ((p - asr var2 12) * 3125)

/-- Steps P12 to P15 (R170). -/
def pressBack (n : Nat → Int → Int) (p : Int) (c : PressCoefs) : Int :=
  let t1 := asr (n 15 (c.p9 * asr (n 14 (asr p 3 * asr p 3)) 13)) 12
  let t2 := asr (n 16 (asr p 2 * c.p8)) 13
  let q := asr p 8
  let t3 := asr (n 19 (n 18 (n 17 (q * q) * q) * c.p10)) 17
  n 21 (p + asr (n 20 (t1 + t2 + t3 + shl c.p7 7)) 4)

/-- Steps H0 to H7 (R176): truncating division, flooring shifts (R177). `n site v` is `w32` of the site. -/
def humSteps (n : Nat → Int → Int) (adc tFine : Int) (c : HumCoefs) : Int :=
  let ts := asr (n 22 (tFine * 5 + 128)) 8
  let var1 := n 24 ((adc - c.h1 * 16) - asr (tdiv (n 23 (ts * c.h3)) 100) 1)
  let a := tdiv (n 25 (ts * c.h4)) 100
  let b := tdiv (asr (n 27 (ts * tdiv (n 26 (ts * c.h5)) 100)) 6) 100
  let var2 := asr (n 29 (c.h2 * n 28 (a + b + 16384))) 10
  let var3 := n 30 (var1 * var2)
  let var4 := asr (n 32 (shl c.h6 7 + tdiv (n 31 (ts * c.h7)) 100)) 4
  let var5 := asr (n 33 (asr var3 14 * asr var3 14)) 10
  let var6 := asr (n 34 (var4 * var5)) 1
  asr (n 36 (asr (n 35 (var3 + var6)) 10 * 1000)) 12

/-- Steps K1 to K7 (R191), from the capped temperature `t`. Exact integers: R192 shows that no step leaves the 32-bit range. -/
def heatSteps (t amb : Int) (c : HeatCoefs) : Int :=
  let var1 := tdiv (amb * c.g3) 1000 * 256
  let var2 := (c.g1 + 784) * tdiv (tdiv ((c.g2 + 154009) * t * 5) 100 + 3276800) 10
  let var3 := var1 + tdiv var2 2
  let var4 := tdiv var3 (c.rng + 4)
  let var5 := 131 * c.val + 65536
  let x100 := (tdiv var4 var5 - 250) * 34
  tdiv (x100 + 50) 100

end Sys2Proof.Machine

namespace Sys2Proof.Config

/-- `PRESS_POLY` (R170, G1). -/
def pressPoly : PressPoly where
  front := Machine.pressFront
  scaled := Machine.pressScaled
  back := Machine.pressBack

/-- `HUM_POLY` (R176, G2). -/
def humPoly : HumPoly where
  body := Machine.humSteps

/-- `HEAT_POLY` (R191, G3). -/
def heatPoly : HeatPoly where
  body := Machine.heatSteps

end Sys2Proof.Config
end

