-- ==== Sys2Proof/Machine/Compensation.lean ====
section
/-! DEFINITION. The compensation engine (R160 to R187): the four functions, the part of `DataReady` that runs them all, and the
operations `COMPT`, `COMPP`, `COMPH`, `COMPG`. -/

namespace Sys2Proof.Machine

/-! ### Temperature -/

/-- `CompT` (R162): exact integers (R163); answers `(t_fine, T)`. Irreducible, so that comparing two states does not
unfold it; so are the other functions of the engine. -/
@[irreducible] def compT (raw : Int) (c : TempCoefs) : Int × Int :=
  let var1 := asr raw 3 - shl c.t1 1
  let var2 := asr (var1 * c.t2) 11
  let var3 := asr (asr var1 1 * asr var1 1) 12
  let var3' := asr (var3 * shl c.t3 4) 14
  let tFine := var2 + var3'
  (tFine, asr (tFine * 5 + 128) 8)

/-- `COMPT`'s registers (R162), without `ERR` and `DONE`. -/
def tempBody (s : State) : State :=
  let r := compT (uval s.raw.temp) (tempCoefs s.cal)
  { s with
    tFine := store 32 r.1
    tfineValid := true
    out := { s.out with temp := store 32 r.2, rng := setRng 0 (tempOutOfBand r.2) s.out.rng } }

/-! ### Pressure -/

/-- `first_divide(p)` (R171): which order finishes the division. -/
def firstDivide (branch : Config.PressBranch) (p : Int) : Bool :=
  match branch with
  | .overflowSafe => 2 ^ 30 < p
  | .asWorded => !(2 ^ 30 < p)

/-- Step P11 (R170, R171): the two orders of the division by `var1` and the doubling. -/
def pressDivide (n : Nat → Int → Int) (branch : Config.PressBranch) (p var1 : Int) : Int :=
  if firstDivide branch p then n 11 (shl (tdiv p var1) 1)
  else n 13 (tdiv (n 12 (shl p 1)) var1)

/-- `CompP` (R169, R170) with the body `PRESS_POLY`: `none` is `DivZero` (R172). Irreducible, as `compT` is. -/
@[irreducible] def compP (poly : Config.PressPoly) (n : Nat → Int → Int) (branch : Config.PressBranch) (adc tFine : Int)
    (c : PressCoefs) : Option Int :=
  let front := poly.front n tFine c
  if front.1 = 0 then none
  else some (poly.back n (pressDivide n branch (poly.scaled n adc front.2) front.1) c)

/-- What `CompP` answers for the raw sample and coefficients of a state. -/
def pressResult (s : State) : Option Int :=
  compP Config.pressPoly (narrow32 Config.ovf32 s.draws) Config.pressBranch (uval s.raw.press) (sval s.tFine) (pressCoefs s.cal)

/-- `COMPP`'s registers (R168, R172), without `ERR` and `DONE`. With a zero divisor `OUT.press` is a free value. -/
def pressBody (s : State) : State :=
  match pressResult s with
  | none =>
    { s with
      out := { s.out with press := Config.freePress s.draws, rng := setRng 1 true (setRng 3 true s.out.rng) }
      draws := s.draws + 1 }
  | some p =>
    { s with
      out := { s.out with press := store 32 p, rng := setRng 1 (pressOutOfBand p) (setRng 3 false s.out.rng) }
      draws := s.draws + 1 }

/-! ### Humidity -/

/-- `CompH` (R176) with the body `HUM_POLY`. `n site v` is `w32` of the site. Irreducible, as `compT` is. -/
@[irreducible] def compH (poly : Config.HumPoly) (n : Nat → Int → Int) (adc tFine : Int) (c : HumCoefs) : Int :=
  poly.body n adc tFine c

/-- What `CompH` answers for the raw sample and coefficients of a state. -/
def humResult (s : State) : Int :=
  compH Config.humPoly (narrow32 Config.ovf32 s.draws) (uval s.raw.hum) (sval s.tFine) (humCoefs s.cal)

/-- `COMPH`'s registers (R175), without `ERR` and `DONE`: no clamping (conflict C7). -/
def humBody (s : State) : State :=
  { s with
    out := { s.out with
      hum := store 32 (humResult s)
      rng := setRng 2 (humOutOfBand (humResult s)) s.out.rng }
    draws := s.draws + 1 }

/-! ### Gas resistance -/

/-- `CompG` (R180): exact integers (R182), the grouping of conflict C8; `none` is a zero divisor (R183). -/
@[irreducible] def compG (l1 l2 : Vector Nat 16) (adc : Int) (range : Fin 16) (sw : Int) : Option Int :=
  let var1 := asr ((1340 + 5 * sw) * (l1[range] : Int)) 16
  let var2 := shl adc 15 - 16777216 + var1
  let var3 := asr ((l2[range] : Int) * var1) 9
  if var2 = 0 then none else some (tdiv (var3 + tdiv var2 2) var2)

/-- What `CompG` answers for the raw sample and coefficients of a state. -/
def gasResult (s : State) : Option Int :=
  compG Config.lut1 Config.lut2 (uval s.raw.gas) s.raw.range.toFin (sval s.cal.rangeSwError)

/-- `COMPG`'s registers (R180), without `ERR` and `DONE`; the validity flags travel beside the value (R184). -/
def gasBody (s : State) : State :=
  { s with
    out := { s.out with
      gas := match gasResult s with
        | some g => store 32 g
        | none => Config.freeGas s.draws
      status := rawStatus s.raw
      gasIndex := s.raw.gasIndex
      measIndex := s.raw.measIndex }
    draws := s.draws + 1 }

/-! ### All four, and the operations -/

/-- `CompAll` (R185), without `ERR` and `DONE`: all four on the same raw sample, in this order. -/
def compAll (s : State) : State := gasBody (humBody (pressBody (tempBody s)))

/-- `COMPT` once accepted (R162). -/
def comptBody (s : State) : State :=
  let t := tempBody s
  endOperation (rangeOutcome (t.out.rng.getLsbD 0)) t

/-- `COMPP` once accepted (R168). -/
def comppBody (s : State) : State :=
  let t := pressBody s
  endOperation (rangeOutcome (t.out.rng.getLsbD 1)) t

/-- `COMPH` once accepted (R175). -/
def comphBody (s : State) : State :=
  let t := humBody s
  endOperation (rangeOutcome (t.out.rng.getLsbD 2)) t

/-- `COMPG` once accepted (R180): never an error. -/
def compgBody (s : State) : State := endOperation .ok (gasBody s)

/-- `COMPT` (R161, R162, R242). -/
def execCompt (s : State) : Host.Outcome State Fault Refusal := .next (acceptOr needsCalRaw comptBody s)

/-- `COMPP` (R161, R168, R242). -/
def execCompp (s : State) : Host.Outcome State Fault Refusal := .next (acceptOr needsCalRawTfine comppBody s)

/-- `COMPH` (R161, R175, R242). -/
def execComph (s : State) : Host.Outcome State Fault Refusal := .next (acceptOr needsCalRawTfine comphBody s)

/-- `COMPG` (R161, R180, R242). -/
def execCompg (s : State) : Host.Outcome State Fault Refusal := .next (acceptOr needsCalRaw compgBody s)

end Sys2Proof.Machine
end

