-- ==== Sys2Proof/Machine/Field.lean ====
section
/-! DEFINITION. The raw field decoder (R150 to R155) and the operation `FLDDEC`. -/

namespace Sys2Proof.Machine

/-- `FieldDecode(F)` (R150), over the layout of R116: most significant byte first (R117, R153). -/
def fieldDecode (l : Config.FieldLayout) (f : Vector Byte 15) : RawRegs where
  press := f[l.pressHi] ++ f[l.pressMid] ++ f[l.pressLo].extractLsb' l.pressLoBit.val 4
  temp := f[l.tempHi] ++ f[l.tempMid] ++ f[l.tempLo].extractLsb' l.tempLoBit.val 4
  hum := f[l.humHi] ++ f[l.humLo]
  gas := f[l.gasHi] ++ f[l.gasLo].extractLsb' l.gasLoBit.val 2
  range := f[l.gasLo].extractLsb' l.rangeBit.val 4
  newData := f[l.status].getLsbD l.newDataBit.val
  gasValid := f[l.gasLo].getLsbD l.gasValidBit.val
  heatStab := f[l.gasLo].getLsbD l.heatStabBit.val
  gasIndex := f[l.status].extractLsb' l.gasIndexBit.val 4
  measIndex := f[l.measIndex]

/-- The raw sample takes the decode of the field buffer and is valid (R150, R222). -/
def decodeSample (s : State) : State :=
  { s with raw := fieldDecode Config.fieldLayout s.fldbuf, rawValid := true }

/-- `FLDDEC` once accepted (R150). -/
def flddecBody (s : State) : State := endOperation .ok (invalidateResults (decodeSample s))

/-- `FLDDEC` (R150, R242). -/
def execFlddec (s : State) : Host.Outcome State Fault Refusal := .next (acceptOr needsNothing flddecBody s)

end Sys2Proof.Machine
end

