-- ==== Sys2Proof/Machine/Heater.lean ====
section
/-! DEFINITION. The heater control register encoder (R190 to R199): the resistance code, the duration code and its inverse, and
the operations `HEATR`, `HEATD`. -/

namespace Sys2Proof.Machine

/-- The cap of the target temperature (R191 K0). -/
def heatCap (temp : Int) : Int := if 400 < temp then 400 else temp

/-- Steps K0 to K7 of `HeatRes` (R191) with the body `HEAT_POLY`, before the reduction to eight bits. Irreducible, as `compT`
is. -/
@[irreducible] def heatResFull (poly : Config.HeatPoly) (temp amb : Int) (c : HeatCoefs) : Int :=
  poly.body (heatCap temp) amb c

/-- `HeatRes` (R191, R193): the low eight bits, no saturation. -/
def heatRes (poly : Config.HeatPoly) (temp amb : Int) (c : HeatCoefs) : Byte := store 8 (heatResFull poly temp amb c)

/-- The loop of `HeatDur` (R194): divide by 4 and count, until the value fits 6 bits. The fuel is above the number of
divisions of any 16-bit duration. -/
def heatDurLoop : Nat → Nat → Nat → Nat
  | 0, d, factor => d + factor * 64
  | fuel + 1, d, factor => if 63 < d then heatDurLoop fuel (d / 4) (factor + 1) else d + factor * 64

/-- `HeatDur` (R194): durations from 4032 up saturate. -/
def heatDur (d : Nat) : Byte := if 4032 ≤ d then 255 else BitVec.ofNat 8 (heatDurLoop 8 d 0)

/-- `DurDecode` (R195): what a duration code stands for, in milliseconds. The block has no operation that decodes. -/
def durDecode (c : Byte) : Nat := (c.extractLsb' 0 6).toNat * 4 ^ (c.extractLsb' 6 2).toNat

/-- `CFG.res_heat` from the configuration and the coefficients (R190). -/
def writeResHeat (s : State) : State :=
  { s with cfg := { s.cfg with
      resHeat := heatRes Config.heatPoly (uval s.cfg.heatTemp) (sval s.cfg.ambTemp) (heatCoefs s.cal) } }

/-- `CFG.gas_wait` from the configuration (R194). -/
def writeGasWait (s : State) : State :=
  { s with cfg := { s.cfg with gasWait := heatDur s.cfg.heatDur.toNat } }

/-- `HEATR` once accepted (R190). -/
def heatrBody (s : State) : State := endOperation .ok (writeResHeat s)

/-- `HEATD` once accepted (R194). -/
def heatdBody (s : State) : State := endOperation .ok (writeGasWait s)

/-- `HEATR` (R190, R242). -/
def execHeatr (s : State) : Host.Outcome State Fault Refusal := .next (acceptOr needsCal heatrBody s)

/-- `HEATD` (R194, R242). -/
def execHeatd (s : State) : Host.Outcome State Fault Refusal := .next (acceptOr needsNothing heatdBody s)

end Sys2Proof.Machine
end

