-- ==== Sys2Proof/Machine/Sequencer.lean ====
section
/-! DEFINITION. The measurement sequencer (R200 to R230): the operations `INIT` and `MEASURE` as far as the host's command takes
them (the acceptance), and the micro-steps that carry them out. -/

namespace Sys2Proof.Machine

/-! ### Acceptance -/

/-- What the acceptance of `INIT` and of `MEASURE` clear alike: the raw sample, `T_FINE` and the results are no longer valid,
`OUT.rng` and `SEQ.polls` are 0 (R204, R207). -/
def clearCycle (s : State) : State :=
  { s with
    rawValid := false
    tfineValid := false
    outValid := false
    out := { s.out with rng := 0 }
    seq := { s.seq with polls := 0 } }

/-- `INIT` once accepted (R204). -/
def initBody (s : State) : State := goto .init 0 (clearCycle { s with calValid := false })

/-- The heater codes are computed before the first bus write, with gas enabled only (R199, R207). -/
def heaterCodes (s : State) : State := if s.cfg.gasEn then writeGasWait (writeResHeat s) else s

/-- `MEASURE` once accepted (R207). -/
def measureBody (s : State) : State := goto .configuring 0 (heaterCodes (clearCycle s))

/-- `INIT` (R204, R242). -/
def execInit (s : State) : Host.Outcome State Fault Refusal := .next (acceptOr needsNothing initBody s)

/-- `MEASURE` (R207, R242). -/
def execMeasure (s : State) : Host.Outcome State Fault Refusal := .next (acceptOr needsCal measureBody s)

/-! ### The micro-steps of `Init` (R205, R206) -/

/-- What the soft-reset read does with its byte (R205 step 1): over, budget used up, or wait. `SEQ.polls` saturates. -/
def initPolled (b : Byte) (s : State) : State :=
  let polls := if s.seq.polls = 255 then 255 else s.seq.polls + 1
  let s' := { s with seq := { s.seq with polls := polls } }
  if b = 0 then goto .init 3 s'
  else if Config.resetPollMax = some polls.toNat then endOperation .communicationError s'
  else startTimer (goto .init 2 s')

/-- What the chip-id read does with its byte (R205 step 3, R262). -/
def initIdentified (b : Byte) (s : State) : State :=
  if b = Config.chipId then goto .init 4 s else endOperation .unexpectedDeviceId s

/-- `Init` step 9: decode and finish (R206). -/
def initFinish (s : State) : State := endOperation .ok (decodeCoefficients s)

/-- The wait of `Init` step 2 and of `Polling` step 1: it ends only once the bound has passed, and then goes to step `n` and
stops the timer (R205, R218). Before that it does nothing. -/
def waitStep (bound : Nat) (n : BitVec 4) (s : State) : State :=
  if delayElapsed bound s then { goto s.seq.state n s with timer := none } else s

/-- The micro-steps of `Init` (R205). -/
def initStep (fails : Bool) (s : State) : Host.Outcome State Fault Refusal :=
  match s.seq.step.toNat with
  | 0 => .next (writeStep s fails Config.addrReset Config.resetKey (goto .init 1))
  | 1 => .next (readStep s fails Config.addrReset 1 fun bs => initPolled (bs.headD 0))
  | 2 => .next (waitStep Config.resetPollDelayMs 1 s)
  | 3 => .next (readStep s fails Config.addrChipId 1 fun bs => initIdentified (bs.headD 0))
  | 4 => .next (readStep s fails Config.addrCal1 Config.lenCal1 fun bs t =>
      goto .init 5 { t with calbuf := loadBytes t.calbuf 0 bs })
  | 5 => .next (readStep s fails Config.addrCal2 Config.lenCal2 fun bs t =>
      goto .init 6 { t with calbuf := loadBytes t.calbuf Config.lenCal1 bs })
  | 6 => .next (readStep s fails Config.addrResHeatRange 1 fun bs t =>
      goto .init 7 { t with auxbuf := loadBytes t.auxbuf 0 bs })
  | 7 => .next (readStep s fails Config.addrResHeatVal 1 fun bs t =>
      goto .init 8 { t with auxbuf := loadBytes t.auxbuf 1 bs })
  | 8 => .next (readStep s fails Config.addrRangeSwErr 1 fun bs t =>
      goto .init 9 { t with auxbuf := loadBytes t.auxbuf 2 bs })
  | 9 => .next (initFinish s)
  | _ => .fault .noMicroStep

/-! ### The micro-steps of a cycle (R208 to R222) -/

/-- The micro-steps of `Configuring` (R208, R209). -/
def configuringStep (fails : Bool) (s : State) : Host.Outcome State Fault Refusal :=
  match s.seq.step.toNat with
  | 0 => .next (writeStep s fails Config.addrCtrlHum (ctrlHumByte s.cfg) (goto .configuring 1))
  | 1 => .next (writeStep s fails Config.addrCtrlMeas (ctrlMeasByte s.cfg Config.modeSleep) (goto .configuring 2))
  | 2 => .next (writeStep s fails Config.addrConfig (configByte s.cfg) (goto .configuring 3))
  | 3 =>
    if s.cfg.gasEn then .next (writeStep s fails Config.addrResHeat0 s.cfg.resHeat (goto .configuring 4))
    else .next (writeStep s fails Config.addrCtrlGas1 ctrlGasOffByte (goto .triggered 0))
  | 4 => .next (writeStep s fails Config.addrGasWait0 s.cfg.gasWait (goto .configuring 5))
  | 5 => .next (writeStep s fails Config.addrCtrlGas1 ctrlGasOnByte (goto .triggered 0))
  | _ => .fault .noMicroStep

/-- `SEQ.polls <- 0` and on to `Polling` (R210). -/
def startPolling (s : State) : State := goto .polling 0 { s with seq := { s.seq with polls := 0 } }

/-- The micro-step of `Triggered` (R210). -/
def triggeredStep (fails : Bool) (s : State) : Host.Outcome State Fault Refusal :=
  match s.seq.step.toNat with
  | 0 => .next (writeStep s fails Config.addrCtrlMeas (ctrlMeasByte s.cfg Config.modeForced) startPolling)
  | _ => .fault .noMicroStep

/-- What the status read does with its byte (R216, R217): only bit 7 counts, and a ready answer wins over the budget. -/
def polled (b : Byte) (s : State) : State :=
  let polls := s.seq.polls + 1
  let s' := { s with seq := { s.seq with polls := polls } }
  if b.getLsbD 7 then goto .dataReady 0 s'
  else if polls.toNat = Config.pollMax then goto .timedOut 0 s'
  else startTimer (goto .polling 1 s')

/-- The micro-steps of `Polling` (R216, R218). -/
def pollingStep (fails : Bool) (s : State) : Host.Outcome State Fault Refusal :=
  match s.seq.step.toNat with
  | 0 => .next (readStep s fails Config.addrStatus 1 fun bs => polled (bs.headD 0))
  | 1 => .next (waitStep Config.pollDelayMs 0 s)
  | _ => .fault .noMicroStep

/-- `DataReady` step 1: decode, compensate and finish (R222, R185). -/
def cycleFinish (s : State) : State :=
  let t := { compAll (decodeSample s) with outValid := true }
  endOperation (cycleOutcome t.out.rng) t

/-- The micro-steps of `DataReady` (R221, R222). -/
def dataReadyStep (fails : Bool) (s : State) : Host.Outcome State Fault Refusal :=
  match s.seq.step.toNat with
  | 0 => .next (readStep s fails Config.addrField Config.lenField fun bs t =>
      goto .dataReady 1 { t with fldbuf := loadBytes t.fldbuf 0 bs })
  | 1 => .next (cycleFinish s)
  | _ => .fault .noMicroStep

/-- The micro-step of `TimedOut` (R220, R263). -/
def timedOutStep (s : State) : Host.Outcome State Fault Refusal :=
  match s.seq.step.toNat with
  | 0 => .next (endOperation .noNewData s)
  | _ => .fault .noMicroStep

/-- The sequencer's next micro-step, selected by `(SEQ.state, SEQ.step)` (R202). In `Idle` there is none. -/
def microStep (fails : Bool) (s : State) : Host.Outcome State Fault Refusal :=
  match s.seq.state with
  | .idle => .next s
  | .init => initStep fails s
  | .configuring => configuringStep fails s
  | .triggered => triggeredStep fails s
  | .polling => pollingStep fails s
  | .dataReady => dataReadyStep fails s
  | .timedOut => timedOutStep s

/-- Whether the next micro-step is a wait (R202), and its bound. -/
def waitBound (s : State) : Option Nat :=
  match s.seq.state with
  | .init => if s.seq.step = 2 then some Config.resetPollDelayMs else none
  | .polling => if s.seq.step = 1 then some Config.pollDelayMs else none
  | .idle => none
  | .configuring => none
  | .triggered => none
  | .dataReady => none
  | .timedOut => none

end Sys2Proof.Machine
end

