-- ==== Sys2Proof/Machine/Dispatch.lean ====
section
/-! DEFINITION. `exec`: what a command write does whose data is the operation's code (R242), one arm per operation. -/

namespace Sys2Proof.Machine

def exec (i : Instr) (s : State) : Host.Outcome State Fault Refusal :=
  match i with
  | .nop => Sys2Proof.Machine.execNop s
  | .init => Sys2Proof.Machine.execInit s
  | .measure => Sys2Proof.Machine.execMeasure s
  | .clrerr => Sys2Proof.Machine.execClrerr s
  | .caldec => Sys2Proof.Machine.execCaldec s
  | .flddec => Sys2Proof.Machine.execFlddec s
  | .compt => Sys2Proof.Machine.execCompt s
  | .compp => Sys2Proof.Machine.execCompp s
  | .comph => Sys2Proof.Machine.execComph s
  | .compg => Sys2Proof.Machine.execCompg s
  | .heatr => Sys2Proof.Machine.execHeatr s
  | .heatd => Sys2Proof.Machine.execHeatd s

end Sys2Proof.Machine
end

