-- ==== Sys2Proof/Machine/Agents.lean ====
section
/-! DEFINITION. What each agent's turn does (R8 to R11): the host's actions (R240), the sequencer's micro-steps (R202), the
sensor and the other bus users, the timer, and `Reset` (R290). -/

namespace Sys2Proof.Machine

/-- A command write (R242): its data is decoded and the operation is run; a word that is no operation is rejected. -/
def commandWrite (data : Word) (s : State) : Host.Outcome State Fault Refusal :=
  match decodeCommand data with
  | .ok i => exec i s
  | .error _ => .next (rejectCommand s)

/-- A host action, performed completely (R240). -/
def hostAction (a : HostAction) (s : State) : Host.Outcome State Fault Refusal :=
  match a with
  | .read hr => .next (answerRead hr s)
  | .write hr data => if hr = Config.hostRegNumber .cmd then commandWrite data s else .next (hostWrite hr data s)

/-- `Reset` (R290 to R292): the block is in the reset state; the sensor, the bus and the host are not touched. -/
def resetBlock (s : State) : State :=
  { State.reset with sensor := s.sensor, inputs := s.inputs, trace := s.trace, answer := s.answer, draws := s.draws }

/-- One element of the environment's schedule. -/
def runInput (i : Input) (s : State) : Host.Outcome State Fault Refusal :=
  match i with
  | .host a => hostAction a s
  | .turn fails => microStep fails s
  | .sensor addr v => .next { s with sensor := s.sensor.set addr.toNat v }
  | .time ms => .next (passTime ms s)
  | .reset => .next (resetBlock s)

/-- With nothing scheduled the block goes on by itself (R200, R202): in `Idle` it rests; in a wait whose bound has not passed, at
least one millisecond passes (log entry 14); otherwise it takes its next micro-step, whose transaction fails or not as a free
value says (log entry 6). -/
def autonomous (s : State) : Host.Outcome State Fault Refusal :=
  match waitBound s with
  | some bound =>
    if delayElapsed bound s then microStep false s
    else .next (passTime (1 + Config.freeWaitMs s.draws) s.nextDraw)
  | none => microStep (Config.freeBusFails s.draws) s

/-- The command data that the step fetches next, with the state after the fetch: the head of the schedule is a command write
(R75: a command is consumed at once). -/
def fetch (s : State) : Option (Word × State) :=
  match s.inputs with
  | .host (.write hr data) :: rest => if hr = Config.hostRegNumber .cmd then some (data, { s with inputs := rest }) else none
  | _ => none

/-- The schedule with the command write of `data` at its head. -/
def scheduleCommand (data : Word) (s : State) : State :=
  { s with inputs := .host (.write (Config.hostRegNumber .cmd) data) :: s.inputs }

end Sys2Proof.Machine
end

