-- ==== Sys2Proof/Machine/Step.lean ====
section
/-! DEFINITION. One step of the machine, and where an instruction is placed for it. -/

namespace Sys2Proof.Machine

/-- One step: the environment's next scheduled event, or, with nothing scheduled, the block's own. -/
def step (s : State) : Host.Outcome State Fault Refusal :=
  match s.inputs with
  | [] => autonomous s
  | i :: rest => runInput i { s with inputs := rest }

/-- The command word whose bits are `w` (the bits above `nbits` zero) is what the host writes to `CMD` next. -/
def State.withFetchWord (s : State) (nbits w : Nat) : State := scheduleCommand (BitVec.ofNat 32 (w % 2 ^ nbits)) s

end Sys2Proof.Machine
end

