-- ==== Sys2Proof/Safety.lean ====
section
/-! DEFINITION. What counts as a legal state, in the terms the statements use: the invariants of the block's control, of its
registers, of `T_FINE`, of a reading, of the sensor register space and of the bus trace. -/

namespace Sys2Proof.Machine

/-! ### Control -/

/-- The `(SEQ.state, SEQ.step)` pairs that have a micro-step (R205, R208, R210, R216, R218, R220 to R222), and `Idle` step 0. -/
def seqPairOk (st : SeqState) (n : BitVec 4) : Bool :=
  match st with
  | .idle => n.toNat = 0
  | .init => n.toNat ≤ 9
  | .configuring => n.toNat ≤ 5
  | .triggered => n.toNat = 0
  | .polling => n.toNat ≤ 1
  | .dataReady => n.toNat ≤ 1
  | .timedOut => n.toNat = 0

/-- A `MEASURE` cycle is under way: neither `Idle` nor `Init`. -/
def State.inCycle (s : State) : Bool := s.seq.state ≠ .idle && s.seq.state ≠ .init

/-- The invariant of the control registers. -/
structure ControlInv (s : State) : Prop where
  /-- the control position is one of the tables' -/
  position : seqPairOk s.seq.state s.seq.step = true
  /-- the last two configuration steps are taken with gas enabled only (R208) -/
  gasSteps : s.seq.state = .configuring → 4 ≤ s.seq.step.toNat → s.cfg.gasEn = true
  /-- the delay timer runs exactly in the two waits (R276) -/
  timerRuns : s.timer.isSome = (waitBound s).isSome
  /-- a poll is still allowed in `Polling` (R217) -/
  pollsLeft : s.seq.state = .polling → s.seq.polls.toNat < Config.pollMax
  /-- `DataReady` follows at least one and at most `POLL_MAX` status reads (R217) -/
  pollsReady : s.seq.state = .dataReady → 1 ≤ s.seq.polls.toNat ∧ s.seq.polls.toNat ≤ Config.pollMax
  /-- `TimedOut` follows exactly `POLL_MAX` status reads (R216) -/
  pollsSpent : s.seq.state = .timedOut → s.seq.polls.toNat = Config.pollMax
  /-- from acceptance to end, `DONE` = 0 and `ERR` = `OK` (R247) -/
  underWay : s.busy = true → s.done = false ∧ s.err = .ok
  /-- while a sequence runs nothing computed is valid (R203, R204, R207) -/
  nothingValid : s.busy = true → s.rawValid = false ∧ s.tfineValid = false ∧ s.outValid = false
  /-- `INIT` runs without valid coefficients (R204) -/
  initInvalid : s.seq.state = .init → s.calValid = false
  /-- a cycle runs with valid coefficients (R207) -/
  cycleValid : s.inCycle = true → s.calValid = true
  /-- `T_FINE` is valid only beside a valid raw sample and valid coefficients (R32, R300) -/
  tfineNeeds : s.tfineValid = true → s.calValid = true ∧ s.rawValid = true
  /-- a reading is valid only beside a valid `T_FINE` (R32, R34) -/
  outNeeds : s.outValid = true → s.tfineValid = true
  /-- `REJC` names a cause exactly when `REJ` is set (R246, R270) -/
  rejection : s.rej = true ↔ s.rejc ≠ .none

/-! ### Registers -/

/-- The invariant of the register formats. -/
structure FormatInv (s : State) : Prop where
  /-- oversampling codes 6 and 7 are never stored (R23, R104) -/
  osT : s.cfg.osT.toNat ≤ 5
  osP : s.cfg.osP.toNat ≤ 5
  osH : s.cfg.osH.toNat ≤ 5
  /-- when `OUT.rng[3]` is set, so is `OUT.rng[1]` (R35) -/
  divisorFlag : s.out.rng.getLsbD 3 = true → s.out.rng.getLsbD 1 = true
  /-- the other bits of `OUT.status` are 0 (R34) -/
  statusBits : s.out.status &&& 0x4F#8 = 0#8

/-- `T_FINE` lies in the bounds of R32 and R164. -/
def TfineInv (s : State) : Prop := -2228204 ≤ s.tFine.toInt ∧ s.tFine.toInt ≤ 2227164

/-! ### Readings -/

/-- `T_FINE` is the one computed from the current raw temperature and coefficients (R32). -/
def TfineCurrent (s : State) : Prop :=
  s.tFine = store 32 (compT (uval s.raw.temp) (tempCoefs s.cal)).1

/-- The pressure registers hold what `CompP` gives under `OVF32 = wrap` (R168, R172). -/
def PressCurrent (s : State) : Prop :=
  match compP Config.pressPoly (fun _ => w32) Config.pressBranch (uval s.raw.press) (sval s.tFine) (pressCoefs s.cal) with
  | none => s.out.rng.getLsbD 1 = true ∧ s.out.rng.getLsbD 3 = true
  | some p =>
    s.out.press = store 32 p ∧ s.out.rng.getLsbD 1 = pressOutOfBand p ∧ s.out.rng.getLsbD 3 = false

/-- The humidity registers hold what `CompH` gives under `OVF32 = wrap` (R175). -/
def HumCurrent (s : State) : Prop :=
  let h := compH Config.humPoly (fun _ => w32) (uval s.raw.hum) (sval s.tFine) (humCoefs s.cal)
  s.out.hum = store 32 h ∧ s.out.rng.getLsbD 2 = humOutOfBand h

/-- The temperature registers hold what `CompT` gives (R162). -/
def TempCurrent (s : State) : Prop :=
  let t := (compT (uval s.raw.temp) (tempCoefs s.cal)).2
  s.out.temp = store 32 t ∧ s.out.rng.getLsbD 0 = tempOutOfBand t

/-- The gas registers hold what `CompG` gives, and the copies of the raw status (R180). -/
def GasCurrent (s : State) : Prop :=
  gasResult s = some s.out.gas.toNat ∧ s.out.status = rawStatus s.raw ∧
    s.out.gasIndex = s.raw.gasIndex ∧ s.out.measIndex = s.raw.measIndex

/-- The valid flags tell the truth: a valid `T_FINE` belongs to the current raw sample and coefficients (R32), and a valid
reading is the compensation of the current raw sample (R34). -/
structure ReadingInv (s : State) : Prop where
  tfine : s.tfineValid = true → TfineCurrent s
  reading : s.outValid = true → TempCurrent s ∧ PressCurrent s ∧ HumCurrent s ∧ GasCurrent s

/-! ### Environment -/

/-- The sensor register space is in its canonical form. -/
def SensorInv (s : State) : Prop := s.sensor.wf = true

/-- Every transaction the block has made is one of R69's, in the formats of R100 to R109. -/
def TraceInv (s : State) : Prop := ∀ t ∈ s.trace, t.wf = true

/-! ### Outcomes -/

/-- The machine goes on. -/
def Completes (o : Host.Outcome State Fault Refusal) : Prop := ∃ t, o = .next t

/-- The schedule's next event is the event `Reset`. -/
def State.resetNext (s : State) : Bool :=
  match s.inputs with
  | .reset :: _ => true
  | _ => false

/-- The transaction of the micro-step that `(SEQ.state, SEQ.step)` selects, with its address and its byte written out (R100 to
R103, R205, R208 to R210, R216, R221); `none` for a pair whose micro-step makes none (R202). -/
def State.nextTransaction (s : State) : Option BusOp :=
  match s.seq.state with
  | .idle => none
  | .init =>
    match s.seq.step.toNat with
    | 0 => some (.write 0xE0 [0xB6])
    | 1 => some (.read 0xE0 1)
    | 3 => some (.read 0xD0 1)
    | 4 => some (.read 0x89 25)
    | 5 => some (.read 0xE1 16)
    | 6 => some (.read 0x02 1)
    | 7 => some (.read 0x00 1)
    | 8 => some (.read 0x04 1)
    | _ => none
  | .configuring =>
    match s.seq.step.toNat with
    | 0 => some (.write 0x72 [BitVec.ofNat 8 s.cfg.osH.toNat])
    | 1 => some (.write 0x74 [BitVec.ofNat 8 (32 * s.cfg.osT.toNat + 4 * s.cfg.osP.toNat)])
    | 2 => some (.write 0x75 [BitVec.ofNat 8 (4 * s.cfg.filter.toNat)])
    | 3 => some (if s.cfg.gasEn then .write 0x5A [s.cfg.resHeat] else .write 0x71 [0x00])
    | 4 => some (.write 0x64 [s.cfg.gasWait])
    | 5 => some (.write 0x71 [0x10])
    | _ => none
  | .triggered =>
    if s.seq.step = 0 then some (.write 0x74 [BitVec.ofNat 8 (32 * s.cfg.osT.toNat + 4 * s.cfg.osP.toNat + 1)]) else none
  | .polling => if s.seq.step = 0 then some (.read 0x1D 1) else none
  | .dataReady => if s.seq.step = 0 then some (.read 0x1D 15) else none
  | .timedOut => none

/-- The operation that the next step starts, if the schedule's next event is a command write of one. -/
def State.commandNext (s : State) : Option Instr :=
  match fetch s with
  | some (data, _) =>
    match decodeCommand data with
    | .ok i => some i
    | .error _ => none
  | none => none

/-- The valid flags that an operation needs in order to be accepted are set (R161, R190, R207, R248). -/
def readyFor : Instr → State → Bool
  | .nop => needsNothing
  | .init => needsNothing
  | .measure => needsCal
  | .clrerr => needsNothing
  | .caldec => needsNothing
  | .flddec => needsNothing
  | .compt => needsCalRaw
  | .compp => needsCalRawTfine
  | .comph => needsCalRawTfine
  | .compg => needsCalRaw
  | .heatr => needsCal
  | .heatd => needsNothing

end Sys2Proof.Machine
end

