-- ==== Sys2Proof/Certificates/Slice0/Obligations.lean ====
section
/-! DEFINITION. The statements for the provers. Each docstring cites the rule it formalises. -/

open Sys2Proof Sys2Proof.Machine

/-! ### Encodings -/

/-- R92, R93, R242: a command word is one of the twelve codes exactly; decoding and encoding agree in both directions. -/
def Obligations.CommandWordsDecodeExactly : Prop :=
  ∀ (data : Word) (i : Instr), decodeCommand data = .ok i ↔ data = encodeCommand i

/-- R92: the codes of four operations, one of each group, written out. -/
def Obligations.SampleCommandWordsDecode : Prop :=
  decodeCommand 0b00000010#32 = .ok .measure ∧ decodeCommand 0b00010001#32 = .ok .flddec ∧
    decodeCommand 0b00100010#32 = .ok .comph ∧ decodeCommand 0b00110001#32 = .ok .heatd ∧
    decodeCommand 0b00110010#32 = .error .badCommand ∧ decodeCommand 0x100#32 = .error .badCommand

/-- R94, R96: host register numbers and registers correspond one to one, and so do host actions and their 41-bit words (that a
read with non-zero data is no word is log entry 16). -/
def Obligations.HostEncodingsRoundTrip : Prop :=
  (∀ r : HostReg, decodeHostReg (encodeHostReg r) = some r) ∧
    (∀ (hr : BitVec 8) (r : HostReg), decodeHostReg hr = some r → encodeHostReg r = hr) ∧
    (∀ a : HostAction, decodeHostWord (encodeHostWord a) = some a) ∧
    ∀ (w : BitVec 41) (a : HostAction), decodeHostWord w = some a → encodeHostWord a = w

/-- R97: the reserved numbers and the registers of access `R`, by number: a write is rejected `BadRegister`; a read of a
reserved number is not rejected and returns 0. -/
def Obligations.ReservedAndReadOnlyRegisters : Prop :=
  ∀ (s : State) (hr : BitVec 8) (data : Word),
    let n := hr.toNat
    let reserved := (0x05 ≤ n ∧ n ≤ 0x07) ∨ (0x12 ≤ n ∧ n ≤ 0x1F) ∨ (0x3A ≤ n ∧ n ≤ 0x3E) ∨ (0x48 ≤ n ∧ n ≤ 0x4F) ∨
      (0x58 ≤ n ∧ n ≤ 0x7F) ∨ (0xAC ≤ n ∧ n ≤ 0xAF) ∨ 0xBF ≤ n
    let readOnly := (0x01 ≤ n ∧ n ≤ 0x04) ∨ (0x10 ≤ n ∧ n ≤ 0x11) ∨ (0x20 ≤ n ∧ n ≤ 0x39) ∨ (0x3F ≤ n ∧ n ≤ 0x47) ∨
      (0x50 ≤ n ∧ n ≤ 0x57)
    (decodeHostReg hr = none ↔ reserved) ∧
      (reserved ∨ readOnly → runInput (.host (.write hr data)) s = .next { s with rej := true, rejc := .badRegister }) ∧
      (reserved → runInput (.host (.read hr)) s = .next { s with answer := some ⟨hr, 0⟩ })

/-- R130: `CalDecode`, every coefficient as the number its rule gives. -/
def Obligations.CalDecodeGivesTheCoefficients : Prop :=
  ∀ (buf : Vector Byte 41) (aux : Vector Byte 3),
    let c := fun i : Fin 41 => (buf[i].toNat : Int)
    let r := calDecode Config.calLayout buf aux
    (r.parT1.toNat : Int) = 256 * c 34 + c 33 ∧
      r.parT2.toInt = sext 16 (256 * c 2 + c 1) ∧
      r.parT3.toInt = sext 8 (c 3) ∧
      (r.parP1.toNat : Int) = 256 * c 6 + c 5 ∧
      r.parP2.toInt = sext 16 (256 * c 8 + c 7) ∧
      r.parP3.toInt = sext 8 (c 9) ∧
      r.parP4.toInt = sext 16 (256 * c 12 + c 11) ∧
      r.parP5.toInt = sext 16 (256 * c 14 + c 13) ∧
      r.parP6.toInt = sext 8 (c 16) ∧
      r.parP7.toInt = sext 8 (c 15) ∧
      r.parP8.toInt = sext 16 (256 * c 20 + c 19) ∧
      r.parP9.toInt = sext 16 (256 * c 22 + c 21) ∧
      (r.parP10.toNat : Int) = c 23 ∧
      (r.parH1.toNat : Int) = 16 * c 27 + c 26 % 16 ∧
      (r.parH2.toNat : Int) = 16 * c 25 + c 26 / 16 ∧
      r.parH3.toInt = sext 8 (c 28) ∧
      r.parH4.toInt = sext 8 (c 29) ∧
      r.parH5.toInt = sext 8 (c 30) ∧
      (r.parH6.toNat : Int) = c 31 ∧
      r.parH7.toInt = sext 8 (c 32) ∧
      r.parG1.toInt = sext 8 (c 37) ∧
      r.parG2.toInt = sext 16 (256 * c 36 + c 35) ∧
      r.parG3.toInt = sext 8 (c 38) ∧
      r.resHeatRange.toNat = aux[0].toNat / 16 % 4 ∧
      r.resHeatVal.toInt = sext 8 aux[1].toNat ∧
      r.rangeSwError.toInt = sext 4 (aux[2].toNat / 16 : Nat)

/-- R139: two images decode alike exactly when they agree on the used bits, and every combination of coefficients is the
decode of some image. -/
def Obligations.CalDecodeBijectiveOnUsedBits : Prop :=
  (∀ (buf buf' : Vector Byte 41) (aux aux' : Vector Byte 3),
      calDecode Config.calLayout buf aux = calDecode Config.calLayout buf' aux' ↔
        (∀ i : Fin 41, i.val ∉ [0, 4, 10, 17, 18, 24, 39, 40] → buf[i] = buf'[i]) ∧
          aux[0].toNat / 16 % 4 = aux'[0].toNat / 16 % 4 ∧ aux[1] = aux'[1] ∧
          aux[2].toNat / 16 = aux'[2].toNat / 16) ∧
    ∀ c : CalRegs, ∃ (buf : Vector Byte 41) (aux : Vector Byte 3), calDecode Config.calLayout buf aux = c

/-- R117 to R119, R150: `FieldDecode`, every field as the number its rule gives. -/
def Obligations.FieldDecodeGivesTheRawSample : Prop :=
  ∀ buf : Vector Byte 15,
    let f := fun i : Fin 15 => buf[i].toNat
    let r := fieldDecode Config.fieldLayout buf
    r.press.toNat = 4096 * f 2 + 16 * f 3 + f 4 / 16 ∧
      r.temp.toNat = 4096 * f 5 + 16 * f 6 + f 7 / 16 ∧
      r.hum.toNat = 256 * f 8 + f 9 ∧
      r.gas.toNat = 4 * f 13 + f 14 / 64 ∧
      r.range.toNat = f 14 % 16 ∧
      r.newData = buf[0].getLsbD 7 ∧
      r.gasValid = buf[14].getLsbD 5 ∧
      r.heatStab = buf[14].getLsbD 4 ∧
      r.gasIndex.toNat = f 0 % 16 ∧
      r.measIndex.toNat = f 1

/-- R152: two field blocks decode alike exactly when they agree on the used bits, and every combination of raw values is the
decode of some block. -/
def Obligations.FieldDecodeBijectiveOnUsedBits : Prop :=
  (∀ buf buf' : Vector Byte 15,
      fieldDecode Config.fieldLayout buf = fieldDecode Config.fieldLayout buf' ↔
        (∀ i : Fin 15, i.val ∉ [0, 4, 7, 10, 11, 12] → buf[i] = buf'[i]) ∧
          buf[0] &&& 0x8F#8 = buf'[0] &&& 0x8F#8 ∧ buf[4] &&& 0xF0#8 = buf'[4] &&& 0xF0#8 ∧
          buf[7] &&& 0xF0#8 = buf'[7] &&& 0xF0#8) ∧
    ∀ r : RawRegs, ∃ buf : Vector Byte 15, fieldDecode Config.fieldLayout buf = r

/-! ### The step and the host port -/

/-- R242: when the host's next action is a command write of a well-formed operation, the step is that operation's `exec`, on the
state with the write taken off the schedule (the schedule is the model's, log entry 2). -/
def Obligations.StepRunsTheDecodedCommand : Prop :=
  ∀ (s : State) (data : Word) (rest : List Input) (i : Instr),
    s.inputs = .host (.write 0 data) :: rest → decodeCommand data = .ok i → i.wf = true →
      step s = exec i { s with inputs := rest }

/-- R93, R242, R271: a command word that is no operation is rejected `BadCommand` in `Idle` and `Busy` otherwise, and changes
nothing else. -/
def Obligations.ReservedCommandsRejected : Prop :=
  ∀ (s : State) (data : Word) (rest : List Input),
    s.inputs = .host (.write 0 data) :: rest →
      data.toNat ∉ [0x00, 0x01, 0x02, 0x03, 0x10, 0x11, 0x20, 0x21, 0x22, 0x23, 0x30, 0x31] →
        (s.seq.state = .idle → step s = .next { s with inputs := rest, rej := true, rejc := .badCommand }) ∧
          (s.seq.state ≠ .idle → step s = .next { s with inputs := rest, rej := true, rejc := .busy })

/-- R9 to R11, R243, R276: what leaves every register of the block as it was: a host read, which is accepted in every state and
gives the host the value; a change of a sensor register by the sensor or another bus user, which touches that one register of
the sensor's space; and the passing of time, which a running delay timer counts. That these are events of a schedule is the
model's choice (log entry 2), that the answer is recorded is log entry 10, the unit of the timer is log entry 14. -/
def Obligations.ReadsAndEventsLeaveTheBlock : Prop :=
  ∀ (s : State) (rest : List Input),
    (∀ hr : BitVec 8, s.inputs = .host (.read hr) :: rest →
        step s = .next { s with inputs := rest, answer := some ⟨hr, hostRead s hr⟩ }) ∧
      (∀ addr v : Byte, s.inputs = .sensor addr v :: rest →
        ∃ m : Memory, step s = .next { s with inputs := rest, sensor := m } ∧
          ∀ k : Nat, m.get? k = if k = addr.toNat then some v else s.sensor.get? k) ∧
      ∀ ms : Nat, s.inputs = .time ms :: rest →
        step s = .next { s with inputs := rest, timer := s.timer.map (· + ms) }

/-- R96, R243: what a host read returns: unsigned registers zero-extended, signed registers sign-extended, `CMD` 0. -/
def Obligations.HostReadExtendsRegisters : Prop :=
  ∀ s : State,
    hostRead s 0x00 = 0 ∧
    (hostRead s 0x01).toNat = (stat s).toNat ∧
    (hostRead s 0x02).toNat = s.err.code.toNat ∧
    (hostRead s 0x03).toNat = s.rejc.code.toNat ∧
    (hostRead s 0x0D).toNat = s.cfg.gasEn.toNat ∧
    (hostRead s 0x45).toNat = 128 * s.raw.newData.toNat + 32 * s.raw.gasValid.toNat + 16 * s.raw.heatStab.toNat ∧
    (hostRead s 0x04).toNat = s.seq.polls.toNat ∧
    (hostRead s 0x08).toNat = s.cfg.osT.toNat ∧
    (hostRead s 0x09).toNat = s.cfg.osP.toNat ∧
    (hostRead s 0x0A).toNat = s.cfg.osH.toNat ∧
    (hostRead s 0x0B).toNat = s.cfg.filter.toNat ∧
    (hostRead s 0x0E).toNat = s.cfg.heatTemp.toNat ∧
    (hostRead s 0x0F).toNat = s.cfg.heatDur.toNat ∧
    (hostRead s 0x10).toNat = s.cfg.resHeat.toNat ∧
    (hostRead s 0x11).toNat = s.cfg.gasWait.toNat ∧
    (hostRead s 0x20).toNat = s.cal.parT1.toNat ∧
    (hostRead s 0x23).toNat = s.cal.parP1.toNat ∧
    (hostRead s 0x2C).toNat = s.cal.parP10.toNat ∧
    (hostRead s 0x2D).toNat = s.cal.parH1.toNat ∧
    (hostRead s 0x2E).toNat = s.cal.parH2.toNat ∧
    (hostRead s 0x32).toNat = s.cal.parH6.toNat ∧
    (hostRead s 0x37).toNat = s.cal.resHeatRange.toNat ∧
    (hostRead s 0x40).toNat = s.raw.press.toNat ∧
    (hostRead s 0x41).toNat = s.raw.temp.toNat ∧
    (hostRead s 0x42).toNat = s.raw.hum.toNat ∧
    (hostRead s 0x43).toNat = s.raw.gas.toNat ∧
    (hostRead s 0x44).toNat = s.raw.range.toNat ∧
    (hostRead s 0x46).toNat = s.raw.gasIndex.toNat ∧
    (hostRead s 0x47).toNat = s.raw.measIndex.toNat ∧
    (hostRead s 0x53).toNat = s.out.gas.toNat ∧
    (hostRead s 0x54).toNat = s.out.status.toNat ∧
    (hostRead s 0x55).toNat = s.out.gasIndex.toNat ∧
    (hostRead s 0x56).toNat = s.out.measIndex.toNat ∧
    (hostRead s 0x57).toNat = s.out.rng.toNat ∧
    (hostRead s 0x0C).toInt = s.cfg.ambTemp.toInt ∧
    (hostRead s 0x21).toInt = s.cal.parT2.toInt ∧
    (hostRead s 0x22).toInt = s.cal.parT3.toInt ∧
    (hostRead s 0x24).toInt = s.cal.parP2.toInt ∧
    (hostRead s 0x25).toInt = s.cal.parP3.toInt ∧
    (hostRead s 0x26).toInt = s.cal.parP4.toInt ∧
    (hostRead s 0x27).toInt = s.cal.parP5.toInt ∧
    (hostRead s 0x28).toInt = s.cal.parP6.toInt ∧
    (hostRead s 0x29).toInt = s.cal.parP7.toInt ∧
    (hostRead s 0x2A).toInt = s.cal.parP8.toInt ∧
    (hostRead s 0x2B).toInt = s.cal.parP9.toInt ∧
    (hostRead s 0x2F).toInt = s.cal.parH3.toInt ∧
    (hostRead s 0x30).toInt = s.cal.parH4.toInt ∧
    (hostRead s 0x31).toInt = s.cal.parH5.toInt ∧
    (hostRead s 0x33).toInt = s.cal.parH7.toInt ∧
    (hostRead s 0x34).toInt = s.cal.parG1.toInt ∧
    (hostRead s 0x35).toInt = s.cal.parG2.toInt ∧
    (hostRead s 0x36).toInt = s.cal.parG3.toInt ∧
    (hostRead s 0x38).toInt = s.cal.resHeatVal.toInt ∧
    (hostRead s 0x39).toInt = s.cal.rangeSwError.toInt ∧
    (hostRead s 0x3F).toInt = s.tFine.toInt ∧
    (hostRead s 0x50).toInt = s.out.temp.toInt ∧
    (hostRead s 0x51).toInt = s.out.press.toInt ∧
    (hostRead s 0x52).toInt = s.out.hum.toInt ∧
    (∀ i : Fin 41, (hostRead s (BitVec.ofNat 8 (0x80 + i.val))).toNat = s.calbuf[i].toNat) ∧
    (∀ i : Fin 3, (hostRead s (BitVec.ofNat 8 (0xA9 + i.val))).toNat = s.auxbuf[i].toNat) ∧
    ∀ i : Fin 15, (hostRead s (BitVec.ofNat 8 (0xB0 + i.val))).toNat = s.fldbuf[i].toNat

/-- R48: the view `STAT`, as a number; 0 after reset. -/
def Obligations.StatViewIsTheSumOfItsFields : Prop :=
  ∀ s : State,
    (stat s).toNat = s.seq.state.code.toNat + 8 * s.busy.toNat + 16 * s.done.toNat + 32 * s.rej.toNat +
      64 * s.calValid.toNat + 128 * s.rawValid.toNat + 256 * s.tfineValid.toNat + 512 * s.outValid.toNat +
      1024 * s.seq.step.toNat ∧
    stat State.reset = 0

/-- R241, R271: the checks of a register write, in order: `BadRegister`, `Busy`, `BadValue`; a rejected write changes nothing
else. -/
def Obligations.RegisterWritesCheckedInOrder : Prop :=
  ∀ (s : State) (hr : BitVec 8) (data : Word),
    let n := hr.toNat
    let canWrite := (0x08 ≤ n ∧ n ≤ 0x0F) ∨ (0x80 ≤ n ∧ n ≤ 0xAB) ∨ (0xB0 ≤ n ∧ n ≤ 0xBE)
    let legal := (0x08 ≤ n ∧ n ≤ 0x0A ∧ data.toNat ≤ 5) ∨ (n = 0x0B ∧ data.toNat ≤ 7) ∨
      (n = 0x0C ∧ -128 ≤ data.toInt ∧ data.toInt ≤ 127) ∨ (n = 0x0D ∧ data.toNat ≤ 1) ∨
      (0x0E ≤ n ∧ n ≤ 0x0F ∧ data.toNat ≤ 65535) ∨ (0x80 ≤ n ∧ data.toNat ≤ 255)
    (hr ≠ 0 → ¬canWrite →
        runInput (.host (.write hr data)) s = .next { s with rej := true, rejc := .badRegister }) ∧
      (canWrite → s.seq.state ≠ .idle →
        runInput (.host (.write hr data)) s = .next { s with rej := true, rejc := .busy }) ∧
      (canWrite → s.seq.state = .idle → ¬legal →
        runInput (.host (.write hr data)) s = .next { s with rej := true, rejc := .badValue })

/-- R241 (4): an accepted register write stores the value in its register and changes nothing else. -/
def Obligations.RegisterWritesStoreTheValue : Prop :=
  ∀ (s : State) (data : Word), s.seq.state = .idle →
    (data.toNat ≤ 5 → runInput (.host (.write 0x08 data)) s =
        .next { s with cfg := { s.cfg with osT := BitVec.ofNat 3 data.toNat } }) ∧
      (data.toNat ≤ 5 → runInput (.host (.write 0x09 data)) s =
        .next { s with cfg := { s.cfg with osP := BitVec.ofNat 3 data.toNat } }) ∧
      (data.toNat ≤ 5 → runInput (.host (.write 0x0A data)) s =
        .next { s with cfg := { s.cfg with osH := BitVec.ofNat 3 data.toNat } }) ∧
      (data.toNat ≤ 7 → runInput (.host (.write 0x0B data)) s =
        .next { s with cfg := { s.cfg with filter := BitVec.ofNat 3 data.toNat } }) ∧
      (-128 ≤ data.toInt → data.toInt ≤ 127 → runInput (.host (.write 0x0C data)) s =
        .next { s with cfg := { s.cfg with ambTemp := BitVec.ofInt 8 data.toInt } }) ∧
      (data.toNat ≤ 1 → runInput (.host (.write 0x0D data)) s =
        .next { s with cfg := { s.cfg with gasEn := data == 1 } }) ∧
      (data.toNat ≤ 65535 → runInput (.host (.write 0x0E data)) s =
        .next { s with cfg := { s.cfg with heatTemp := BitVec.ofNat 16 data.toNat } }) ∧
      (data.toNat ≤ 65535 → runInput (.host (.write 0x0F data)) s =
        .next { s with cfg := { s.cfg with heatDur := BitVec.ofNat 16 data.toNat } }) ∧
      (data.toNat ≤ 255 → ∀ i : Fin 41, runInput (.host (.write (BitVec.ofNat 8 (0x80 + i.val)) data)) s =
        .next { s with calbuf := s.calbuf.set i (BitVec.ofNat 8 data.toNat) }) ∧
      (data.toNat ≤ 255 → ∀ i : Fin 3, runInput (.host (.write (BitVec.ofNat 8 (0xA9 + i.val)) data)) s =
        .next { s with auxbuf := s.auxbuf.set i (BitVec.ofNat 8 data.toNat) }) ∧
      (data.toNat ≤ 255 → ∀ i : Fin 15, runInput (.host (.write (BitVec.ofNat 8 (0xB0 + i.val)) data)) s =
        .next { s with fldbuf := s.fldbuf.set i (BitVec.ofNat 8 data.toNat) })

/-! ### The operations

Each statement is whole: the state after the operation is the state before with the fields named changed and every other
field (every byte of the sensor register space among them) as before. -/

/-- R244, R245: `NOP` is accepted in every state and has no effect; `CLRERR` clears `ERR`, `DONE`, `REJ`, `REJC` in `Idle` and is
rejected `Busy` elsewhere. -/
def Obligations.HousekeepingOperations : Prop :=
  ∀ s : State,
    exec .nop s = .next s ∧
      (s.seq.state = .idle →
        exec .clrerr s = .next { s with err := .ok, done := false, rej := false, rejc := .none }) ∧
      (s.seq.state ≠ .idle → exec .clrerr s = .next { s with rej := true, rejc := .busy })

/-- R224, R242 (2): every operation but `NOP` is rejected `Busy` while a sequence runs, which is not disturbed. -/
def Obligations.BusyRejectsEveryOperationButNop : Prop :=
  ∀ (i : Instr) (s : State), i ≠ .nop → s.seq.state ≠ .idle →
    exec i s = .next { s with rej := true, rejc := .busy }

/-- R161, R190, R207, R248: in `Idle`, an operation whose valid flags are missing is rejected `NotReady` and changes nothing
else. -/
def Obligations.MissingFlagsRejectNotReady : Prop :=
  ∀ (i : Instr) (s : State), s.seq.state = .idle →
    (i ∈ [Instr.measure, Instr.heatr] ∧ s.calValid = false) ∨
        (i ∈ [Instr.compt, Instr.compg] ∧ (s.calValid = false ∨ s.rawValid = false)) ∨
        (i ∈ [Instr.compp, Instr.comph] ∧ (s.calValid = false ∨ s.rawValid = false ∨ s.tfineValid = false)) →
      exec i s = .next { s with rej := true, rejc := .notReady }

/-- R131, R150: `CALDEC` decodes the buffers into the coefficients and sets `CAL.valid`; `FLDDEC` decodes the field buffer into the
raw sample and sets `RAW.valid`; both clear `TFINE.valid` and `OUT.valid`. -/
def Obligations.DecodersDecodeTheBuffers : Prop :=
  ∀ s : State, s.seq.state = .idle →
    exec .caldec s = .next { s with
        cal := calDecode Config.calLayout s.calbuf s.auxbuf
        calValid := true
        tfineValid := false
        outValid := false
        err := .ok
        done := true } ∧
      exec .flddec s = .next { s with
        raw := fieldDecode Config.fieldLayout s.fldbuf
        rawValid := true
        tfineValid := false
        outValid := false
        err := .ok
        done := true }

/-- R162, R166: `COMPT`, its formula written out in exact integers; the unclamped result, its flag and the outcome. -/
def Obligations.ComptComputesTemperature : Prop :=
  ∀ s : State, s.seq.state = .idle → s.calValid = true → s.rawValid = true →
    let var1 := (s.raw.temp.toNat : Int) / 8 - s.cal.parT1.toNat * 2
    let var2 := var1 * s.cal.parT2.toInt / 2048
    let var3 := (var1 / 2) * (var1 / 2) / 4096
    let var3' := var3 * (s.cal.parT3.toInt * 16) / 16384
    let tFine := var2 + var3'
    let t := (tFine * 5 + 128) / 256
    exec .compt s = .next { s with
      tFine := BitVec.ofInt 32 tFine
      tfineValid := true
      out := { s.out with
        temp := BitVec.ofInt 32 t
        rng := (s.out.rng &&& 0b1110#4) ||| (if t < -4000 ∨ 8500 < t then 0b0001#4 else 0#4) }
      err := if t < -4000 ∨ 8500 < t then .rangeError else .ok
      done := true }

/-- R168, R170 to R172: `COMPP` under the default parameters (`OVF32 = wrap`, `PRESS_BRANCH = overflow_safe`, conflict C1), its
formula written out in the 32-bit datapath with the body `PRESS_POLY` of R170; with a zero divisor both flags are set and `OUT.press` is some value. -/
def Obligations.ComppComputesPressure : Prop :=
  ∀ s : State, s.seq.state = .idle → s.calValid = true → s.rawValid = true → s.tfineValid = true →
    let w := fun v : Int => (v + 2147483648) % 4294967296 - 2147483648
    let c := s.cal
    let p1 := w (s.tFine.toInt / 2 - 64000)
    let sq := w ((p1 / 4) * (p1 / 4))
    let v3 := w (sq / 2048 * c.parP6.toInt) / 4
    let v4 := w (v3 + p1 * c.parP5.toInt * 2)
    let v5 := w (v4 / 4 + c.parP4.toInt * 65536)
    let v6 := w (w (sq / 8192 * (c.parP3.toInt * 32)) / 8 + w (c.parP2.toInt * p1) / 2)
    let d := w ((32768 + v6 / 262144) * c.parP1.toNat) / 32768
    let x := w ((1048576 - s.raw.press.toNat - v5 / 4096) * 3125)
    let q := if 1073741824 < x then w (x.tdiv d * 2) else w ((w (x * 2)).tdiv d)
    let t1 := w (c.parP9.toInt * (w ((q / 8) * (q / 8)) / 8192)) / 4096
    let t2 := w (q / 4 * c.parP8.toInt) / 8192
    let t3 := w (w (w ((q / 256) * (q / 256)) * (q / 256)) * c.parP10.toNat) / 131072
    let p := w (q + w (t1 + t2 + t3 + c.parP7.toInt * 128) / 16)
    (d = 0 → ∃ v, exec .compp s = .next { s with
        out := { s.out with press := v, rng := (s.out.rng &&& 0b0101#4) ||| 0b1010#4 }
        draws := s.draws + 1
        err := .rangeError
        done := true }) ∧
      (d ≠ 0 → exec .compp s = .next { s with
        out := { s.out with
          press := BitVec.ofInt 32 p
          rng := (s.out.rng &&& 0b0101#4) ||| (if p < 30000 ∨ 110000 < p then 0b0010#4 else 0#4) }
        draws := s.draws + 1
        err := if p < 30000 ∨ 110000 < p then .rangeError else .ok
        done := true })

/-- R175 to R177, R179: `COMPH` under `OVF32 = wrap`, its formula written out: truncating divisions, flooring shifts, no clamp. -/
def Obligations.ComphComputesHumidity : Prop :=
  ∀ s : State, s.seq.state = .idle → s.calValid = true → s.rawValid = true → s.tfineValid = true →
    let w := fun v : Int => (v + 2147483648) % 4294967296 - 2147483648
    let c := s.cal
    let ts := w (s.tFine.toInt * 5 + 128) / 256
    let v1 := w ((s.raw.hum.toNat - c.parH1.toNat * 16) - (w (ts * c.parH3.toInt)).tdiv 100 / 2)
    let a := (w (ts * c.parH4.toInt)).tdiv 100
    let b := (w (ts * (w (ts * c.parH5.toInt)).tdiv 100) / 64).tdiv 100
    let v2 := w (c.parH2.toNat * w (a + b + 16384)) / 1024
    let v3 := w (v1 * v2)
    let v4 := w (c.parH6.toNat * 128 + (w (ts * c.parH7.toInt)).tdiv 100) / 16
    let v5 := w ((v3 / 16384) * (v3 / 16384)) / 1024
    let v6 := w (v4 * v5) / 2
    let h := w (w (v3 + v6) / 1024 * 1000) / 4096
    exec .comph s = .next { s with
      out := { s.out with
        hum := BitVec.ofInt 32 h
        rng := (s.out.rng &&& 0b1011#4) ||| (if h < 0 ∨ 100000 < h then 0b0100#4 else 0#4) }
      draws := s.draws + 1
      err := if h < 0 ∨ 100000 < h then .rangeError else .ok
      done := true }

/-- R180: `COMPG`, its formula written out in exact integers with the tables of R181; the status copies; never an error, and
`OUT.rng` untouched. -/
def Obligations.CompgComputesGasResistance : Prop :=
  ∀ s : State, s.seq.state = .idle → s.calValid = true → s.rawValid = true →
    let var1 := (1340 + 5 * s.cal.rangeSwError.toInt) * (Config.lut1[s.raw.range.toFin] : Int) / 65536
    let var2 := (s.raw.gas.toNat : Int) * 32768 - 16777216 + var1
    let var3 := (Config.lut2[s.raw.range.toFin] : Int) * var1 / 512
    exec .compg s = .next { s with
      out := { s.out with
        gas := BitVec.ofInt 32 ((var3 + var2.tdiv 2).tdiv var2)
        status := BitVec.ofNat 8
          (128 * s.raw.newData.toNat + 32 * s.raw.gasValid.toNat + 16 * s.raw.heatStab.toNat)
        gasIndex := s.raw.gasIndex
        measIndex := s.raw.measIndex }
      draws := s.draws + 1
      err := .ok
      done := true }

/-- R190, R191, R193: `HEATR`, its formula written out; the low eight bits are stored. -/
def Obligations.HeatrComputesTheResistanceCode : Prop :=
  ∀ s : State, s.seq.state = .idle → s.calValid = true →
    let t : Int := if 400 < s.cfg.heatTemp.toNat then 400 else s.cfg.heatTemp.toNat
    let var1 := (s.cfg.ambTemp.toInt * s.cal.parG3.toInt).tdiv 1000 * 256
    let var2 := (s.cal.parG1.toInt + 784) *
      (((s.cal.parG2.toInt + 154009) * t * 5).tdiv 100 + 3276800).tdiv 10
    let var3 := var1 + var2.tdiv 2
    let var4 := var3.tdiv (s.cal.resHeatRange.toNat + 4)
    let var5 := 131 * s.cal.resHeatVal.toInt + 65536
    let x100 := (var4.tdiv var5 - 250) * 34
    exec .heatr s = .next { s with
      cfg := { s.cfg with resHeat := BitVec.ofInt 8 ((x100 + 50).tdiv 100) }
      err := .ok
      done := true }

/-- R194, R196: `HEATD`, in the closed form of R196. -/
def Obligations.HeatdComputesTheDurationCode : Prop :=
  ∀ s : State, s.seq.state = .idle →
    let d := s.cfg.heatDur.toNat
    let code := if d ≤ 63 then d else if d ≤ 255 then d / 4 + 64 else if d ≤ 1023 then d / 16 + 128
      else if d ≤ 4031 then d / 64 + 192 else 255
    exec .heatd s = .next { s with
      cfg := { s.cfg with gasWait := BitVec.ofNat 8 code }
      err := .ok
      done := true }

/-- R204: the acceptance of `INIT`. -/
def Obligations.InitIsAccepted : Prop :=
  ∀ s : State, s.seq.state = .idle →
    exec .init s = .next { s with
      done := false
      err := .ok
      calValid := false
      rawValid := false
      tfineValid := false
      outValid := false
      out := { s.out with rng := 0 }
      seq := ⟨.init, 0, 0⟩ }

/-- R199, R207: the acceptance of `MEASURE`, with the heater codes computed exactly when gas is enabled. -/
def Obligations.MeasureIsAccepted : Prop :=
  ∀ s : State, s.seq.state = .idle → s.calValid = true →
    exec .measure s = .next { s with
      done := false
      err := .ok
      rawValid := false
      tfineValid := false
      outValid := false
      out := { s.out with rng := 0 }
      seq := ⟨.configuring, 0, 0⟩
      cfg := if s.cfg.gasEn then
          { s.cfg with
            resHeat := heatRes Config.heatPoly s.cfg.heatTemp.toNat s.cfg.ambTemp.toInt (heatCoefs s.cal)
            gasWait := heatDur s.cfg.heatDur.toNat }
        else s.cfg }

/-- R60, R244, R245: no operation touches the bus or the sensor's registers in the step that accepts it; only the sequencer's
micro-steps do. -/
def Obligations.OperationsMakeNoTransaction : Prop :=
  ∀ (i : Instr) (s t : State), exec i s = .next t →
    (∀ a, t.sensor.get? a = s.sensor.get? a) ∧ t.trace = s.trace ∧ t.inputs = s.inputs ∧
      t.calbuf = s.calbuf ∧ t.auxbuf = s.auxbuf ∧ t.fldbuf = s.fldbuf

/-! ### The sequencer's micro-steps -/

/-- R205, R206: the micro-steps of `Init` whose transaction succeeds, with the whole next state (`RESET_POLL_MAX` unbounded, log
entry 13). What is then known of the sensor, `Memory.afterWrite` and `Memory.afterRead`, is the model's (log entries 5, 7); so
is the counter of free values (log entry 9). -/
def Obligations.InitMicroSteps : Prop :=
  ∀ s : State, s.seq.state = .init →
    let b := sensorByte s
    let polls := BitVec.ofNat 8 (min (s.seq.polls.toNat + 1) 255)
    -- after a read of `n` registers from `a` the state is `t`, but for the trace, the sensor and the counter of free values
    let readTo := fun (a : Byte) (n : Nat) (t : State) => microStep false s = .next { t with
      trace := ⟨.read a n, .ok ((List.range n).map fun i => b (a.toNat + i))⟩ :: s.trace
      sensor := s.sensor.afterRead a.toNat n
      draws := s.draws + 1 }
    (s.seq.step = 0 → microStep false s = .next { s with
        trace := ⟨.write 0xE0 [0xB6], .ok []⟩ :: s.trace
        sensor := s.sensor.afterWrite 0xE0 0xB6
        draws := s.draws + 1
        seq := ⟨.init, 1, s.seq.polls⟩ }) ∧
      (s.seq.step = 1 → b 0xE0 = 0 → readTo 0xE0 1 { s with seq := ⟨.init, 3, polls⟩ }) ∧
      (s.seq.step = 1 → b 0xE0 ≠ 0 → readTo 0xE0 1 { s with seq := ⟨.init, 2, polls⟩, timer := some 0 }) ∧
      (s.seq.step = 3 → b 0xD0 = 0x61 → readTo 0xD0 1 { s with seq := ⟨.init, 4, s.seq.polls⟩ }) ∧
      (s.seq.step = 4 → readTo 0x89 25 { s with
        calbuf := Vector.ofFn fun i : Fin 41 => if i.val < 25 then b (0x89 + i.val) else s.calbuf[i]
        seq := ⟨.init, 5, s.seq.polls⟩ }) ∧
      (s.seq.step = 5 → readTo 0xE1 16 { s with
        calbuf := Vector.ofFn fun i : Fin 41 => if i.val < 25 then s.calbuf[i] else b (0xE1 + (i.val - 25))
        seq := ⟨.init, 6, s.seq.polls⟩ }) ∧
      (s.seq.step = 6 → readTo 0x02 1 { s with auxbuf := s.auxbuf.set 0 (b 0x02), seq := ⟨.init, 7, s.seq.polls⟩ }) ∧
      (s.seq.step = 7 → readTo 0x00 1 { s with auxbuf := s.auxbuf.set 1 (b 0x00), seq := ⟨.init, 8, s.seq.polls⟩ }) ∧
      (s.seq.step = 8 → readTo 0x04 1 { s with auxbuf := s.auxbuf.set 2 (b 0x04), seq := ⟨.init, 9, s.seq.polls⟩ })

/-- R206: `Init` step 9 decodes the buffers and finishes; it makes no transaction and cannot fail. -/
def Obligations.InitFinishesWithTheDecode : Prop :=
  ∀ (s : State) (fails : Bool), s.seq.state = .init → s.seq.step = 9 →
    microStep fails s = .next { s with
      cal := calDecode Config.calLayout s.calbuf s.auxbuf
      calValid := true
      err := .ok
      done := true
      seq := ⟨.idle, 0, s.seq.polls⟩ }

/-- R205 step 3, R262: any other chip id ends `INIT` with `UnexpectedDeviceId`; no calibration register is read. What is then known
of the sensor is the model's (log entry 5). -/
def Obligations.WrongChipIdEndsInit : Prop :=
  ∀ s : State, s.seq.state = .init → s.seq.step = 3 → sensorByte s 0xD0 ≠ 0x61 →
    microStep false s = .next { s with
      err := .unexpectedDeviceId
      done := true
      seq := ⟨.idle, 0, s.seq.polls⟩
      trace := ⟨.read 0xD0 1, .ok [sensorByte s 0xD0]⟩ :: s.trace
      sensor := s.sensor.afterRead 0xD0 1
      draws := s.draws + 1 }

/-- R100 to R103, R208 to R210: the micro-steps of `Configuring` and `Triggered`, with the byte each writes, as a number. What is
then known of the sensor is `Memory.afterWrite` (log entry 5). -/
def Obligations.ConfiguringMicroSteps : Prop :=
  ∀ s : State,
    let wrote := fun (addr b : Byte) (st : SeqState) (n : BitVec 4) => microStep false s = .next { s with
      trace := ⟨.write addr [b], .ok []⟩ :: s.trace
      sensor := s.sensor.afterWrite addr.toNat b
      draws := s.draws + 1
      seq := ⟨st, n, if s.seq.state = .triggered then 0 else s.seq.polls⟩ }
    (s.seq.state = .configuring → s.seq.step = 0 → wrote 0x72 (BitVec.ofNat 8 s.cfg.osH.toNat) .configuring 1) ∧
      (s.seq.state = .configuring → s.seq.step = 1 →
        wrote 0x74 (BitVec.ofNat 8 (32 * s.cfg.osT.toNat + 4 * s.cfg.osP.toNat)) .configuring 2) ∧
      (s.seq.state = .configuring → s.seq.step = 2 → wrote 0x75 (BitVec.ofNat 8 (4 * s.cfg.filter.toNat)) .configuring 3) ∧
      (s.seq.state = .configuring → s.seq.step = 3 → s.cfg.gasEn = true → wrote 0x5A s.cfg.resHeat .configuring 4) ∧
      (s.seq.state = .configuring → s.seq.step = 3 → s.cfg.gasEn = false → wrote 0x71 0x00 .triggered 0) ∧
      (s.seq.state = .configuring → s.seq.step = 4 → wrote 0x64 s.cfg.gasWait .configuring 5) ∧
      (s.seq.state = .configuring → s.seq.step = 5 → wrote 0x71 0x10 .triggered 0) ∧
      (s.seq.state = .triggered → s.seq.step = 0 →
        wrote 0x74 (BitVec.ofNat 8 (32 * s.cfg.osT.toNat + 4 * s.cfg.osP.toNat + 1)) .polling 0)

/-- R216: one poll: only bit 7 of the byte counts, the count goes up by one, a ready answer wins over the spent budget, and the
byte is not stored. What is then known of the sensor is the model's (log entry 5). -/
def Obligations.PollExaminesBitSeven : Prop :=
  ∀ s : State, s.seq.state = .polling → s.seq.step = 0 →
    let b := sensorByte s 0x1D
    let after := fun (st : SeqState) (n : BitVec 4) (timer : Option Nat) => microStep false s = .next { s with
      trace := ⟨.read 0x1D 1, .ok [b]⟩ :: s.trace
      sensor := s.sensor.afterRead 0x1D 1
      draws := s.draws + 1
      seq := ⟨st, n, s.seq.polls + 1⟩
      timer := timer }
    (b.getLsbD 7 = true → after .dataReady 0 s.timer) ∧
      (b.getLsbD 7 = false → s.seq.polls + 1 = 10 → after .timedOut 0 s.timer) ∧
      (b.getLsbD 7 = false → s.seq.polls + 1 ≠ 10 → after .polling 1 (some 0))

/-- R205 step 2, R218: a wait makes no transaction; it ends only once its 10 ms have passed, and then goes to the next poll. That a
turn which comes before then does nothing, and that leaving the wait stops the timer, are the model's choice (log entry 14). -/
def Obligations.WaitsLastAtLeastTenMilliseconds : Prop :=
  ∀ (s : State) (fails : Bool) (ms : Nat), s.timer = some ms →
    (s.seq.state = .polling ∧ s.seq.step = 1) ∨ (s.seq.state = .init ∧ s.seq.step = 2) →
      (ms < 10 → microStep fails s = .next s) ∧
        (10 ≤ ms → microStep fails s = .next { s with
          timer := none
          seq := { s.seq with step := if s.seq.state = .init then 1 else 0 } })

/-- R220, R263: `TimedOut` ends the cycle with `NoNewData`, makes no transaction, leaves nothing valid but the coefficients, and a
following `MEASURE` is accepted. -/
def Obligations.TimedOutEndsWithNoNewData : Prop :=
  ∀ (s : State) (fails : Bool), ControlInv s → s.seq.state = .timedOut →
    ∃ t, microStep fails s = .next t ∧
      t = { s with err := .noNewData, done := true, seq := ⟨.idle, 0, s.seq.polls⟩ } ∧
      t.seq.polls.toNat = Config.pollMax ∧ t.rawValid = false ∧ t.tfineValid = false ∧ t.outValid = false ∧
      ∃ u, exec .measure t = .next u ∧ u.seq.state = .configuring ∧ u.rej = t.rej

/-- R221: `DataReady` step 0 is one burst of 15 bytes into the field buffer. What is then known of the sensor is the model's (log
entry 5). -/
def Obligations.DataReadyReadsTheFieldBlock : Prop :=
  ∀ s : State, s.seq.state = .dataReady → s.seq.step = 0 →
    microStep false s = .next { s with
      fldbuf := Vector.ofFn fun i : Fin 15 => sensorByte s (0x1D + i.val)
      trace := ⟨.read 0x1D 15, .ok ((List.range 15).map fun i => sensorByte s (0x1D + i))⟩ :: s.trace
      sensor := s.sensor.afterRead 0x1D 15
      draws := s.draws + 1
      seq := ⟨.dataReady, 1, s.seq.polls⟩ }

/-- R185, R222: `DataReady` step 1 decodes the field buffer and leaves the registers that the host's `COMPT`, `COMPP`, `COMPH`,
`COMPG` leave on the same raw sample; `ERR` is `RangeError` exactly when one of the three band flags is set. -/
def Obligations.DataReadyAgreesWithTheHostSequence : Prop :=
  ∀ (s : State) (fails : Bool), s.seq.state = .dataReady → s.seq.step = 1 → s.calValid = true →
    ∃ t h a b c d : State, microStep fails s = .next t ∧
      h = { s with
        raw := fieldDecode Config.fieldLayout s.fldbuf, rawValid := true, seq := ⟨.idle, 0, s.seq.polls⟩ } ∧
      exec .compt h = .next a ∧ exec .compp a = .next b ∧ exec .comph b = .next c ∧ exec .compg c = .next d ∧
      d.err = .ok ∧ d.done = true ∧ d.seq = h.seq ∧
      t = { d with
        outValid := true
        err := if d.out.rng &&& 0b0111#4 = 0#4 then .ok else .rangeError }

/-- R203, R261, R268, R281: a micro-step whose transaction fails, the one that `(SEQ.state, SEQ.step)` selects, writes `ERR`,
`DONE` and the sequencer's position and nothing else of the block; the valid flags keep the values the acceptance gave them. A
micro-step that makes no transaction cannot fail. What is then known of the sensor, `Memory.afterRead` and
`Memory.afterWriteAttempt`, is the model's (log entries 5, 7). -/
def Obligations.BusFailureEndsTheSequence : Prop :=
  (∀ (s : State) (op : BusOp), ControlInv s → s.nextTransaction = some op →
      microStep true s = .next { s with
        err := .communicationError
        done := true
        seq := ⟨.idle, 0, s.seq.polls⟩
        trace := ⟨op, .error⟩ :: s.trace
        sensor := match op with
          | .read addr count => s.sensor.afterRead addr.toNat count
          | .write addr _ => s.sensor.afterWriteAttempt addr.toNat
        draws := s.draws + 1 } ∧
      op.wf = true ∧ s.rawValid = false ∧ s.tfineValid = false ∧ s.outValid = false ∧
      (s.calValid = true ↔ s.seq.state ≠ .init)) ∧
    ∀ s : State, s.nextTransaction = none → microStep true s = microStep false s

/-- R50, R63, R70, R292, R305: what is known of a sensor register after a transaction, as far as the spec lets one expect it: a read
makes the volatile registers it reads unknown; a write that may have failed makes its register unknown, the soft reset all but
the constant ones, a write to `ctrl_meas` the volatile ones; a successful write to a register that does not change by itself
leaves its byte there. The two lists are R70's; what is made of them is the model's (log entries 5, 7). -/
def Obligations.SensorContentAfterTransactions : Prop :=
  ∀ (m : Memory) (a n k : Nat) (v : Byte),
    let volatileReg := fun x : Nat => x == 0xE0 || x == 0x74 || (0x1D ≤ x && x ≤ 0x2B)
    let constantReg := fun x : Nat => x == 0xD0 || (0x89 ≤ x && x ≤ 0xA1) || (0xE1 ≤ x && x ≤ 0xF0) || x == 0x02 || x == 0x00 ||
      x == 0x04
    (m.afterRead a n).get? k = (if a ≤ k && k < a + n && volatileReg k then none else m.get? k) ∧
      (m.afterWriteAttempt 0xE0).get? k = (if constantReg k then m.get? k else none) ∧
      (m.afterWriteAttempt 0x74).get? k = (if volatileReg k then none else m.get? k) ∧
      (a ≠ 0xE0 → a ≠ 0x74 → (m.afterWriteAttempt a).get? k = if k = a then none else m.get? k) ∧
      (volatileReg a = true → (m.afterWrite a v).get? k = (m.afterWriteAttempt a).get? k) ∧
      (volatileReg a = false → (m.afterWrite a v).get? k = if k = a then some v else m.get? k)

/-! ### Invariants that every step keeps -/

/-- R44, R201, R203, R207, R217, R247: the control invariant is kept by every step. -/
def Obligations.ControlInvariantKept : Prop :=
  ∀ s t : State, ControlInv s → step s = .next t → ControlInv t

/-- R23, R34, R35, R104: the register formats are kept by every step. -/
def Obligations.RegisterFormatsKept : Prop :=
  ∀ s t : State, FormatInv s → step s = .next t → FormatInv t

/-- R32, R164: `T_FINE` stays in its bounds in every step. -/
def Obligations.TfineBoundsKept : Prop :=
  ∀ s t : State, TfineInv s → step s = .next t → TfineInv t

/-- R32, R34, R300: the valid flags keep telling the truth about `T_FINE` and the reading in every step. -/
def Obligations.ValidFlagsStayTruthful : Prop :=
  ∀ s t : State, ControlInv s → ReadingInv s → step s = .next t → ReadingInv t

/-- R60: the sensor register space keeps its canonical form in every step (the form is the model's, log entry 4). -/
def Obligations.SensorSpaceStaysCanonical : Prop :=
  ∀ s t : State, SensorInv s → step s = .next t → SensorInv t

/-- R69, R72, R106, R120: a step makes at most one transaction, only while a sequence runs, and every transaction is one of R69's
list, with reserved bits 0 and a legal mode. -/
def Obligations.OnlyListedTransactionsAreMade : Prop :=
  ∀ s t : State, TraceInv s → step s = .next t →
    TraceInv t ∧ (t.trace = s.trace ∨ ((∃ tr, t.trace = tr :: s.trace) ∧ s.seq.state ≠ .idle))

/-- R54, R291: the reset state meets every invariant (its data registers' zeros are log entry 1). -/
def Obligations.InvariantsHoldAtReset : Prop :=
  ControlInv State.reset ∧ FormatInv State.reset ∧ TfineInv State.reset ∧ ReadingInv State.reset ∧
    SensorInv State.reset ∧ TraceInv State.reset

/-- R54, R290 to R292: what `Reset` leaves: the values the spec states, in the reset state and after the event at any time; the
sensor and the bus are not touched. -/
def Obligations.ResetLeavesTheStatedValues : Prop :=
  let stated := fun t : State => t.seq = ⟨.idle, 0, 0⟩ ∧ t.err = .ok ∧ t.done = false ∧ t.rej = false ∧ t.rejc = .none ∧
    t.calValid = false ∧ t.rawValid = false ∧ t.tfineValid = false ∧ t.outValid = false ∧ t.out.rng = 0 ∧
    t.timer = none ∧ stat t = 0
  stated State.reset ∧
    ∀ (s : State) (rest : List Input), s.inputs = .reset :: rest →
      ∃ t, step s = .next t ∧ stated t ∧ t.sensor = s.sensor ∧ t.trace = s.trace ∧ t.inputs = rest

/-! ### Rules of the whole machine -/

/-- R265, R273: from a legal control position the machine never stops: every step answers a next state. -/
def Obligations.LegalStatesNeverStop : Prop := ∀ s : State, ControlInv s → Completes (step s)

/-- R201: the complete transition relation of `SEQ.state`; `Reset` (R290) apart, no other transition exists. -/
def Obligations.OnlyTheListedTransitions : Prop :=
  ∀ s t : State, ControlInv s → s.resetNext = false → step s = .next t → t.seq.state ≠ s.seq.state →
    (s.seq.state = .idle ∧ t.seq.state = .init ∧ s.commandNext = some .init) ∨
    (s.seq.state = .idle ∧ t.seq.state = .configuring ∧ s.commandNext = some .measure ∧ s.calValid = true) ∨
    (s.seq.state = .init ∧ t.seq.state = .idle ∧ t.done = true ∧
      ((t.err = .ok ∧ s.seq.step = 9) ∨ (t.err = .unexpectedDeviceId ∧ s.seq.step = 3) ∨ t.err = .communicationError)) ∨
    (s.seq.state = .configuring ∧ t.seq.state = .triggered ∧
      s.seq.step = if s.cfg.gasEn then 5 else 3) ∨
    (s.seq.state = .triggered ∧ t.seq.state = .polling) ∨
    (s.seq.state = .polling ∧ t.seq.state = .dataReady ∧
      ∃ b, t.trace.head? = some ⟨.read 0x1D 1, .ok [b]⟩ ∧ b.getLsbD 7 = true) ∨
    (s.seq.state = .polling ∧ t.seq.state = .timedOut ∧ t.seq.polls.toNat = Config.pollMax ∧
      ∃ b, t.trace.head? = some ⟨.read 0x1D 1, .ok [b]⟩ ∧ b.getLsbD 7 = false) ∨
    (s.seq.state = .dataReady ∧ t.seq.state = .idle ∧ t.done = true ∧ s.seq.step = 1 ∧
      (t.err = .ok ∨ t.err = .rangeError)) ∨
    (s.seq.state = .timedOut ∧ t.seq.state = .idle ∧ t.done = true ∧ t.err = .noNewData) ∨
    (s.inCycle = true ∧ s.seq.state ≠ .timedOut ∧ t.seq.state = .idle ∧ t.done = true ∧ t.err = .communicationError ∧
      ∃ op, t.trace.head? = some ⟨op, .error⟩)

/-- R138: no operation other than `CALDEC`, `INIT` (in its last micro-step) and reset changes any coefficient register. -/
def Obligations.CoefficientsAreImmutable : Prop :=
  ∀ s t : State, step s = .next t → t.cal ≠ s.cal →
    s.resetNext = true ∨ s.commandNext = some .caldec ∨ (s.seq.state = .init ∧ s.seq.step = 9)

/-- R23, R75, R301: while a sequence runs nothing but `Reset` changes the configuration. -/
def Obligations.ConfigurationStableWhileBusy : Prop :=
  ∀ s t : State, s.seq.state ≠ .idle → s.resetNext = false → step s = .next t → t.cfg = s.cfg

/-- R246, R248, R269, R311: `REJ` stays set until `CLRERR` or `Reset`, and an error stays in `ERR` until `Reset` or an operation
other than `NOP` that the host has accepted: one written in `Idle` whose valid flags are set. -/
def Obligations.OutcomesStayUntilCleared : Prop :=
  ∀ s t : State, ControlInv s → step s = .next t →
    (s.rej = true → t.rej = false → s.resetNext = true ∨ (s.commandNext = some .clrerr ∧ s.seq.state = .idle)) ∧
      (s.err ≠ .ok → t.err ≠ s.err →
        s.resetNext = true ∨
          (s.seq.state = .idle ∧ ∃ i, s.commandNext = some i ∧ i ≠ .nop ∧ readyFor i s = true))

/-! ### Whole sequences -/

/-- R205, R206, R225: an `INIT` that meets no failure, over the schedule that lets each micro-step follow the last: it issues the
transactions of R205 in order and leaves the coefficients of the sensor's own calibration registers, wherever the sensor's
content is listed and constant (R70; the schedule and the listing are the model's, log entries 2, 4, 5). -/
def Obligations.InitReadsTheCalibration : Prop :=
  ∀ (s : State) (image : Vector Byte 41) (aux : Vector Byte 3),
    s.seq.state = .idle →
    s.inputs = [.host (.write 0 1), .turn false, .sensor 0xE0 0, .turn false, .turn false, .turn false, .turn false,
      .turn false, .turn false, .turn false, .turn false] →
    s.sensor.get? 0xD0 = some 0x61 →
    (∀ i : Fin 41, s.sensor.get? (if i.val < 25 then 0x89 + i.val else 0xE1 + (i.val - 25)) = some image[i]) →
    s.sensor.get? 0x02 = some aux[0] → s.sensor.get? 0x00 = some aux[1] → s.sensor.get? 0x04 = some aux[2] →
      ∃ t : State, core.run 11 s = .next t ∧ t.cal = calDecode Config.calLayout image aux ∧ t.calbuf = image ∧ t.auxbuf = aux ∧
        t.calValid = true ∧ t.rawValid = false ∧ t.tfineValid = false ∧ t.outValid = false ∧ t.err = .ok ∧
        t.done = true ∧ t.seq = ⟨.idle, 0, 1⟩ ∧ t.cfg = s.cfg ∧ t.rej = s.rej ∧
        t.trace.map (fun x => x.op) = [.read 0x04 1, .read 0x00 1, .read 0x02 1, .read 0xE1 16, .read 0x89 25,
          .read 0xD0 1, .read 0xE0 1, .write 0xE0 [0xB6]] ++ s.trace.map (fun x => x.op)

/-- R207 to R222, R225, R230: a `MEASURE` with gas enabled that meets no failure and is ready on the first poll, over the schedule
that lets each micro-step follow the last (the schedule is the model's, log entry 2): its nine transactions in order, and a
valid reading of the block that the field read answered. -/
def Obligations.MeasureRunsTheCycle : Prop :=
  ∀ (s : State) (b : Byte),
    s.seq.state = .idle → s.calValid = true → s.cfg.gasEn = true → b.getLsbD 7 = true →
    s.inputs = [.host (.write 0 2), .turn false, .turn false, .turn false, .turn false, .turn false, .turn false,
      .turn false, .sensor 0x1D b, .turn false, .turn false, .turn false] →
      ∃ t : State, core.run 12 s = .next t ∧
        t.trace = [⟨.read 0x1D 15, .ok t.fldbuf.toList⟩, ⟨.read 0x1D 1, .ok [b]⟩,
          ⟨.write 0x74 [BitVec.ofNat 8 (32 * s.cfg.osT.toNat + 4 * s.cfg.osP.toNat + 1)], .ok []⟩,
          ⟨.write 0x71 [0x10], .ok []⟩,
          ⟨.write 0x64 [heatDur s.cfg.heatDur.toNat], .ok []⟩,
          ⟨.write 0x5A [heatRes Config.heatPoly s.cfg.heatTemp.toNat s.cfg.ambTemp.toInt (heatCoefs s.cal)], .ok []⟩,
          ⟨.write 0x75 [BitVec.ofNat 8 (4 * s.cfg.filter.toNat)], .ok []⟩,
          ⟨.write 0x74 [BitVec.ofNat 8 (32 * s.cfg.osT.toNat + 4 * s.cfg.osP.toNat)], .ok []⟩,
          ⟨.write 0x72 [BitVec.ofNat 8 s.cfg.osH.toNat], .ok []⟩] ++ s.trace ∧
        t.raw = fieldDecode Config.fieldLayout t.fldbuf ∧ t.seq = ⟨.idle, 0, 1⟩ ∧ t.done = true ∧
        t.rawValid = true ∧ t.tfineValid = true ∧ t.outValid = true ∧ ReadingInv t ∧
        t.err = (if t.out.rng &&& 0b0111#4 = 0#4 then .ok else .rangeError) ∧ t.cal = s.cal

/-- R217: nine polls that are not ready, each followed by its wait, and then a tenth that is ready give `DataReady`; a tenth that
is not ready gives `TimedOut`. The schedule is the model's (log entry 2). -/
def Obligations.TenthPollDecides : Prop :=
  ∀ (s : State) (b b' : Byte),
    s.seq = ⟨.polling, 0, 0⟩ → b.getLsbD 7 = false →
    s.inputs = (List.replicate 9 [Input.sensor 0x1D b, .turn false, .time 10, .turn false]).flatten ++
      [.sensor 0x1D b', .turn false] →
      ∃ t : State, core.run 38 s = .next t ∧ t.seq.polls = 10 ∧ t.seq.step = 0 ∧
        t.seq.state = (if b'.getLsbD 7 then .dataReady else .timedOut) ∧
        t.trace.length = s.trace.length + 10

/-- R226: a cycle always ends: from every legal state of a cycle, with nothing scheduled, the block is back in `Idle` with `DONE`
set after at most 200 steps, whatever the free values are (that an unscheduled block goes on by itself is log entry 2, that at
least a millisecond passes in a step of a wait is log entry 14). -/
def Obligations.CyclesEnd : Prop :=
  ∀ s : State, ControlInv s → s.inCycle = true → s.inputs = [] →
    ∃ (n : Nat) (t : State), n ≤ 200 ∧ core.run n s = .next t ∧ t.seq.state = .idle ∧ t.done = true

/-! ### The functions' bounds -/

/-- R164: bounds of the temperature function over its whole domain, and that the extremes are reached. -/
def Obligations.TemperatureFunctionBounds : Prop :=
  (∀ raw t1 t2 t3 : Int, 0 ≤ raw → raw ≤ 1048575 → 0 ≤ t1 → t1 ≤ 65535 → -32768 ≤ t2 → t2 ≤ 32767 →
      -128 ≤ t3 → t3 ≤ 127 →
      let var1 := asr raw 3 - shl t1 1
      let var3 := asr (asr var1 1 * asr var1 1) 12
      let r := compT raw ⟨t1, t2, t3⟩
      var1 ≤ 131071 ∧ -131070 ≤ var1 ∧ -4294934528 ≤ var1 * t2 ∧ var1 * t2 ≤ 4294934528 ∧ 0 ≤ var3 ∧ var3 ≤ 1048544 ∧
        -2228204 ≤ r.1 ∧ r.1 ≤ 2227164 ∧ -43520 ≤ r.2 ∧ r.2 ≤ 43499 ∧
        (r.1 * 5 + 128).natAbs < 2 ^ 24) ∧
    compT 1048575 ⟨0, -32768, -128⟩ = (-2228204, -43520) ∧ compT 7 ⟨65535, -32768, 127⟩ = (2227164, 43499)

/-- R183: bounds of the gas function over its whole domain: the division is always defined, and the extremes are reached. -/
def Obligations.GasFunctionBounds : Prop :=
  (∀ (adc : Fin 1024) (range : Fin 16) (sw : Int), -8 ≤ sw → sw ≤ 7 →
      ∃ g, compG Config.lut1 Config.lut2 adc.val range sw = some g ∧ 175 ≤ g ∧ g ≤ 13197970) ∧
    compG Config.lut1 Config.lut2 1023 15 (-8) = some 175 ∧ compG Config.lut1 Config.lut2 0 0 (-8) = some 13197970

/-- R192: bounds of the heater formula over its whole domain, and that the extremes of `r` are reached. -/
def Obligations.HeaterFormulaBounds : Prop :=
  (∀ t amb g1 g2 g3 rng val : Int, 0 ≤ t → t ≤ 400 → -128 ≤ amb → amb ≤ 127 → -128 ≤ g1 → g1 ≤ 127 →
      -32768 ≤ g2 → g2 ≤ 32767 → -128 ≤ g3 → g3 ≤ 127 → 0 ≤ rng → rng ≤ 3 → -128 ≤ val → val ≤ 127 →
      let r := heatResFull Config.heatPoly t amb ⟨g1, g2, g3, rng, val⟩
      r ≤ 472 ∧ -21 ≤ r) ∧
    heatResFull Config.heatPoly 0 (-128) ⟨-128, -32768, -128, 3, 127⟩ = -21 ∧ heatResFull Config.heatPoly 400 127 ⟨127, 32767, 127, 0, -128⟩ = 472

/-- R197, R198: the round-trip properties of the duration code, and the image of the encoder: 208 of the 256 byte values. -/
def Obligations.DurationCodeRoundTrips : Prop :=
  (∀ d : Nat, d < 4032 →
      let c := heatDur d
      let m := 4 ^ (c.extractLsb' 6 2).toNat
      durDecode c ≤ d ∧ d < durDecode c + m ∧ heatDur (durDecode c) = c ∧ (durDecode c = d ↔ d % m = 0)) ∧
    (∀ d1 d2 : Nat, d1 ≤ d2 → durDecode (heatDur d1) ≤ durDecode (heatDur d2)) ∧
    (∀ d : Nat, 4032 ≤ d → heatDur d = 0xFF) ∧ durDecode 0xFF = 4032 ∧
    ∀ c : Byte, (∃ d : Nat, heatDur d = c) ↔
      ¬((0x40 ≤ c.toNat ∧ c.toNat ≤ 0x4F) ∨ (0x80 ≤ c.toNat ∧ c.toNat ≤ 0x8F) ∨ (0xC0 ≤ c.toNat ∧ c.toNat ≤ 0xCF))
end

