-- ==== Sys2Proof/Laws/Arith.lean ====
section
/-! SUPPORT. The arithmetic of R15: the case form of `sext`, its range, and values that a reduction leaves alone. -/

namespace Sys2Proof.Machine

theorem asr_eq_div (v : Int) (n : Nat) : asr v n = v / 2 ^ n := by
  unfold asr
  exact Int.fdiv_eq_ediv_of_nonneg v (by positivity)

/-- R15's own form of the signed reading. -/
theorem sext_eq_reading (n : Nat) (v : Int) :
    sext (n + 1) v = if zext (n + 1) v < 2 ^ n then zext (n + 1) v else zext (n + 1) v - 2 ^ (n + 1) := by
  have hp : (0 : Int) < 2 ^ n := by positivity
  have h2 : (2 : Int) ^ (n + 1) = 2 * 2 ^ n := by ring
  have hm : (v + 2 ^ n) % (2 * 2 ^ n) = (v % (2 * 2 ^ n) + 2 ^ n) % (2 * 2 ^ n) := by rw [Int.emod_add_emod]
  have h0 := Int.emod_nonneg v (show (2 * 2 ^ n : Int) ≠ 0 by omega)
  have h1 := Int.emod_lt_of_pos v (show (0 : Int) < 2 * 2 ^ n by omega)
  simp only [sext, zext, Nat.add_sub_cancel, h2]
  change (v + 2 ^ n) % (2 * 2 ^ n) - 2 ^ n =
    if v % (2 * 2 ^ n) < 2 ^ n then v % (2 * 2 ^ n) else v % (2 * 2 ^ n) - 2 * 2 ^ n
  rw [hm]
  generalize v % (2 * 2 ^ n) = r at *
  generalize (2 : Int) ^ n = p at *
  split
  · rw [Int.emod_eq_of_lt (by omega) (by omega)]; omega
  · rw [show r + p = (r - p) + (2 * p) by ring, Int.add_emod_right, Int.emod_eq_of_lt (by omega) (by omega)]; omega

/-- The reduction to 32 bits in linear form. -/
theorem w32_eq (v : Int) : w32 v = (v + 2147483648) % 4294967296 - 2147483648 := rfl

theorem w32_lower (v : Int) : -2147483648 ≤ w32 v := by rw [w32_eq]; omega

theorem w32_upper (v : Int) : w32 v ≤ 2147483647 := by rw [w32_eq]; omega

/-- A value already in signed 32-bit range is left alone (R16). -/
theorem w32_of_fits (v : Int) (h1 : -2147483648 ≤ v) (h2 : v ≤ 2147483647) : w32 v = v := by rw [w32_eq]; omega

/-- R16: reducing an operand first changes no sum. -/
theorem w32_add_w32 (a b : Int) : w32 (w32 a + w32 b) = w32 (a + b) := by simp only [w32_eq]; omega

/-- Under the default parameter every site reduces in two's complement. -/
@[simp] theorem narrow32_default (k : Nat) : narrow32 Config.ovf32 k = fun _ => w32 := rfl

/-- Storing in a 32-bit register keeps a value in signed 32-bit range. -/
theorem sval_store32 (v : Int) (h1 : -2147483648 ≤ v) (h2 : v ≤ 2147483647) : sval (store 32 v) = v := by
  unfold sval store
  rw [BitVec.toInt_ofInt]
  exact Int.bmod_eq_of_le (by norm_num; omega) (by norm_num; omega)

end Sys2Proof.Machine
end

