-- ==== Sys2Proof/Laws/State.lean ====
section
/-! SUPPORT. One lemma per field per update of the state: what each shared update writes, and that it keeps the rest. -/

namespace Sys2Proof.Machine

/-! `reject` -/

@[simp] theorem reject_cfg (c : RejCause) (s : State) : (reject c s).cfg = s.cfg := rfl
@[simp] theorem reject_calbuf (c : RejCause) (s : State) : (reject c s).calbuf = s.calbuf := rfl
@[simp] theorem reject_auxbuf (c : RejCause) (s : State) : (reject c s).auxbuf = s.auxbuf := rfl
@[simp] theorem reject_fldbuf (c : RejCause) (s : State) : (reject c s).fldbuf = s.fldbuf := rfl
@[simp] theorem reject_cal (c : RejCause) (s : State) : (reject c s).cal = s.cal := rfl
@[simp] theorem reject_calValid (c : RejCause) (s : State) : (reject c s).calValid = s.calValid := rfl
@[simp] theorem reject_raw (c : RejCause) (s : State) : (reject c s).raw = s.raw := rfl
@[simp] theorem reject_rawValid (c : RejCause) (s : State) : (reject c s).rawValid = s.rawValid := rfl
@[simp] theorem reject_tFine (c : RejCause) (s : State) : (reject c s).tFine = s.tFine := rfl
@[simp] theorem reject_tfineValid (c : RejCause) (s : State) : (reject c s).tfineValid = s.tfineValid := rfl
@[simp] theorem reject_out (c : RejCause) (s : State) : (reject c s).out = s.out := rfl
@[simp] theorem reject_outValid (c : RejCause) (s : State) : (reject c s).outValid = s.outValid := rfl
@[simp] theorem reject_seq (c : RejCause) (s : State) : (reject c s).seq = s.seq := rfl
@[simp] theorem reject_err (c : RejCause) (s : State) : (reject c s).err = s.err := rfl
@[simp] theorem reject_done (c : RejCause) (s : State) : (reject c s).done = s.done := rfl
@[simp] theorem reject_rej (c : RejCause) (s : State) : (reject c s).rej = true := rfl
@[simp] theorem reject_rejc (c : RejCause) (s : State) : (reject c s).rejc = c := rfl
@[simp] theorem reject_timer (c : RejCause) (s : State) : (reject c s).timer = s.timer := rfl
@[simp] theorem reject_sensor (c : RejCause) (s : State) : (reject c s).sensor = s.sensor := rfl
@[simp] theorem reject_inputs (c : RejCause) (s : State) : (reject c s).inputs = s.inputs := rfl
@[simp] theorem reject_trace (c : RejCause) (s : State) : (reject c s).trace = s.trace := rfl
@[simp] theorem reject_answer (c : RejCause) (s : State) : (reject c s).answer = s.answer := rfl
@[simp] theorem reject_draws (c : RejCause) (s : State) : (reject c s).draws = s.draws := rfl

/-! `accept` -/

@[simp] theorem accept_cfg (s : State) : (accept s).cfg = s.cfg := rfl
@[simp] theorem accept_calbuf (s : State) : (accept s).calbuf = s.calbuf := rfl
@[simp] theorem accept_auxbuf (s : State) : (accept s).auxbuf = s.auxbuf := rfl
@[simp] theorem accept_fldbuf (s : State) : (accept s).fldbuf = s.fldbuf := rfl
@[simp] theorem accept_cal (s : State) : (accept s).cal = s.cal := rfl
@[simp] theorem accept_calValid (s : State) : (accept s).calValid = s.calValid := rfl
@[simp] theorem accept_raw (s : State) : (accept s).raw = s.raw := rfl
@[simp] theorem accept_rawValid (s : State) : (accept s).rawValid = s.rawValid := rfl
@[simp] theorem accept_tFine (s : State) : (accept s).tFine = s.tFine := rfl
@[simp] theorem accept_tfineValid (s : State) : (accept s).tfineValid = s.tfineValid := rfl
@[simp] theorem accept_out (s : State) : (accept s).out = s.out := rfl
@[simp] theorem accept_outValid (s : State) : (accept s).outValid = s.outValid := rfl
@[simp] theorem accept_seq (s : State) : (accept s).seq = s.seq := rfl
@[simp] theorem accept_err (s : State) : (accept s).err = .ok := rfl
@[simp] theorem accept_done (s : State) : (accept s).done = false := rfl
@[simp] theorem accept_rej (s : State) : (accept s).rej = s.rej := rfl
@[simp] theorem accept_rejc (s : State) : (accept s).rejc = s.rejc := rfl
@[simp] theorem accept_timer (s : State) : (accept s).timer = s.timer := rfl
@[simp] theorem accept_sensor (s : State) : (accept s).sensor = s.sensor := rfl
@[simp] theorem accept_inputs (s : State) : (accept s).inputs = s.inputs := rfl
@[simp] theorem accept_trace (s : State) : (accept s).trace = s.trace := rfl
@[simp] theorem accept_answer (s : State) : (accept s).answer = s.answer := rfl
@[simp] theorem accept_draws (s : State) : (accept s).draws = s.draws := rfl

/-! `endOperation` -/

@[simp] theorem endOperation_cfg (e : ErrCode) (s : State) : (endOperation e s).cfg = s.cfg := rfl
@[simp] theorem endOperation_calbuf (e : ErrCode) (s : State) : (endOperation e s).calbuf = s.calbuf := rfl
@[simp] theorem endOperation_auxbuf (e : ErrCode) (s : State) : (endOperation e s).auxbuf = s.auxbuf := rfl
@[simp] theorem endOperation_fldbuf (e : ErrCode) (s : State) : (endOperation e s).fldbuf = s.fldbuf := rfl
@[simp] theorem endOperation_cal (e : ErrCode) (s : State) : (endOperation e s).cal = s.cal := rfl
@[simp] theorem endOperation_calValid (e : ErrCode) (s : State) : (endOperation e s).calValid = s.calValid := rfl
@[simp] theorem endOperation_raw (e : ErrCode) (s : State) : (endOperation e s).raw = s.raw := rfl
@[simp] theorem endOperation_rawValid (e : ErrCode) (s : State) : (endOperation e s).rawValid = s.rawValid := rfl
@[simp] theorem endOperation_tFine (e : ErrCode) (s : State) : (endOperation e s).tFine = s.tFine := rfl
@[simp] theorem endOperation_tfineValid (e : ErrCode) (s : State) : (endOperation e s).tfineValid = s.tfineValid := rfl
@[simp] theorem endOperation_out (e : ErrCode) (s : State) : (endOperation e s).out = s.out := rfl
@[simp] theorem endOperation_outValid (e : ErrCode) (s : State) : (endOperation e s).outValid = s.outValid := rfl
@[simp] theorem endOperation_seq (e : ErrCode) (s : State) :
    (endOperation e s).seq = (if s.busy then { s.seq with state := .idle, step := 0 } else s.seq) := rfl
@[simp] theorem endOperation_err (e : ErrCode) (s : State) : (endOperation e s).err = e := rfl
@[simp] theorem endOperation_done (e : ErrCode) (s : State) : (endOperation e s).done = true := rfl
@[simp] theorem endOperation_rej (e : ErrCode) (s : State) : (endOperation e s).rej = s.rej := rfl
@[simp] theorem endOperation_rejc (e : ErrCode) (s : State) : (endOperation e s).rejc = s.rejc := rfl
@[simp] theorem endOperation_timer (e : ErrCode) (s : State) : (endOperation e s).timer = s.timer := rfl
@[simp] theorem endOperation_sensor (e : ErrCode) (s : State) : (endOperation e s).sensor = s.sensor := rfl
@[simp] theorem endOperation_inputs (e : ErrCode) (s : State) : (endOperation e s).inputs = s.inputs := rfl
@[simp] theorem endOperation_trace (e : ErrCode) (s : State) : (endOperation e s).trace = s.trace := rfl
@[simp] theorem endOperation_answer (e : ErrCode) (s : State) : (endOperation e s).answer = s.answer := rfl
@[simp] theorem endOperation_draws (e : ErrCode) (s : State) : (endOperation e s).draws = s.draws := rfl

/-! `clearOutcome` -/

@[simp] theorem clearOutcome_cfg (s : State) : (clearOutcome s).cfg = s.cfg := rfl
@[simp] theorem clearOutcome_calbuf (s : State) : (clearOutcome s).calbuf = s.calbuf := rfl
@[simp] theorem clearOutcome_auxbuf (s : State) : (clearOutcome s).auxbuf = s.auxbuf := rfl
@[simp] theorem clearOutcome_fldbuf (s : State) : (clearOutcome s).fldbuf = s.fldbuf := rfl
@[simp] theorem clearOutcome_cal (s : State) : (clearOutcome s).cal = s.cal := rfl
@[simp] theorem clearOutcome_calValid (s : State) : (clearOutcome s).calValid = s.calValid := rfl
@[simp] theorem clearOutcome_raw (s : State) : (clearOutcome s).raw = s.raw := rfl
@[simp] theorem clearOutcome_rawValid (s : State) : (clearOutcome s).rawValid = s.rawValid := rfl
@[simp] theorem clearOutcome_tFine (s : State) : (clearOutcome s).tFine = s.tFine := rfl
@[simp] theorem clearOutcome_tfineValid (s : State) : (clearOutcome s).tfineValid = s.tfineValid := rfl
@[simp] theorem clearOutcome_out (s : State) : (clearOutcome s).out = s.out := rfl
@[simp] theorem clearOutcome_outValid (s : State) : (clearOutcome s).outValid = s.outValid := rfl
@[simp] theorem clearOutcome_seq (s : State) : (clearOutcome s).seq = s.seq := rfl
@[simp] theorem clearOutcome_err (s : State) : (clearOutcome s).err = .ok := rfl
@[simp] theorem clearOutcome_done (s : State) : (clearOutcome s).done = false := rfl
@[simp] theorem clearOutcome_rej (s : State) : (clearOutcome s).rej = false := rfl
@[simp] theorem clearOutcome_rejc (s : State) : (clearOutcome s).rejc = .none := rfl
@[simp] theorem clearOutcome_timer (s : State) : (clearOutcome s).timer = s.timer := rfl
@[simp] theorem clearOutcome_sensor (s : State) : (clearOutcome s).sensor = s.sensor := rfl
@[simp] theorem clearOutcome_inputs (s : State) : (clearOutcome s).inputs = s.inputs := rfl
@[simp] theorem clearOutcome_trace (s : State) : (clearOutcome s).trace = s.trace := rfl
@[simp] theorem clearOutcome_answer (s : State) : (clearOutcome s).answer = s.answer := rfl
@[simp] theorem clearOutcome_draws (s : State) : (clearOutcome s).draws = s.draws := rfl

/-! `goto` -/

@[simp] theorem goto_cfg (st : SeqState) (n : BitVec 4) (s : State) : (goto st n s).cfg = s.cfg := rfl
@[simp] theorem goto_calbuf (st : SeqState) (n : BitVec 4) (s : State) : (goto st n s).calbuf = s.calbuf := rfl
@[simp] theorem goto_auxbuf (st : SeqState) (n : BitVec 4) (s : State) : (goto st n s).auxbuf = s.auxbuf := rfl
@[simp] theorem goto_fldbuf (st : SeqState) (n : BitVec 4) (s : State) : (goto st n s).fldbuf = s.fldbuf := rfl
@[simp] theorem goto_cal (st : SeqState) (n : BitVec 4) (s : State) : (goto st n s).cal = s.cal := rfl
@[simp] theorem goto_calValid (st : SeqState) (n : BitVec 4) (s : State) : (goto st n s).calValid = s.calValid := rfl
@[simp] theorem goto_raw (st : SeqState) (n : BitVec 4) (s : State) : (goto st n s).raw = s.raw := rfl
@[simp] theorem goto_rawValid (st : SeqState) (n : BitVec 4) (s : State) : (goto st n s).rawValid = s.rawValid := rfl
@[simp] theorem goto_tFine (st : SeqState) (n : BitVec 4) (s : State) : (goto st n s).tFine = s.tFine := rfl
@[simp] theorem goto_tfineValid (st : SeqState) (n : BitVec 4) (s : State) : (goto st n s).tfineValid = s.tfineValid := rfl
@[simp] theorem goto_out (st : SeqState) (n : BitVec 4) (s : State) : (goto st n s).out = s.out := rfl
@[simp] theorem goto_outValid (st : SeqState) (n : BitVec 4) (s : State) : (goto st n s).outValid = s.outValid := rfl
@[simp] theorem goto_seq (st : SeqState) (n : BitVec 4) (s : State) :
    (goto st n s).seq = { s.seq with state := st, step := n } := rfl
@[simp] theorem goto_err (st : SeqState) (n : BitVec 4) (s : State) : (goto st n s).err = s.err := rfl
@[simp] theorem goto_done (st : SeqState) (n : BitVec 4) (s : State) : (goto st n s).done = s.done := rfl
@[simp] theorem goto_rej (st : SeqState) (n : BitVec 4) (s : State) : (goto st n s).rej = s.rej := rfl
@[simp] theorem goto_rejc (st : SeqState) (n : BitVec 4) (s : State) : (goto st n s).rejc = s.rejc := rfl
@[simp] theorem goto_timer (st : SeqState) (n : BitVec 4) (s : State) : (goto st n s).timer = s.timer := rfl
@[simp] theorem goto_sensor (st : SeqState) (n : BitVec 4) (s : State) : (goto st n s).sensor = s.sensor := rfl
@[simp] theorem goto_inputs (st : SeqState) (n : BitVec 4) (s : State) : (goto st n s).inputs = s.inputs := rfl
@[simp] theorem goto_trace (st : SeqState) (n : BitVec 4) (s : State) : (goto st n s).trace = s.trace := rfl
@[simp] theorem goto_answer (st : SeqState) (n : BitVec 4) (s : State) : (goto st n s).answer = s.answer := rfl
@[simp] theorem goto_draws (st : SeqState) (n : BitVec 4) (s : State) : (goto st n s).draws = s.draws := rfl

/-! `startTimer` -/

@[simp] theorem startTimer_cfg (s : State) : (startTimer s).cfg = s.cfg := rfl
@[simp] theorem startTimer_calbuf (s : State) : (startTimer s).calbuf = s.calbuf := rfl
@[simp] theorem startTimer_auxbuf (s : State) : (startTimer s).auxbuf = s.auxbuf := rfl
@[simp] theorem startTimer_fldbuf (s : State) : (startTimer s).fldbuf = s.fldbuf := rfl
@[simp] theorem startTimer_cal (s : State) : (startTimer s).cal = s.cal := rfl
@[simp] theorem startTimer_calValid (s : State) : (startTimer s).calValid = s.calValid := rfl
@[simp] theorem startTimer_raw (s : State) : (startTimer s).raw = s.raw := rfl
@[simp] theorem startTimer_rawValid (s : State) : (startTimer s).rawValid = s.rawValid := rfl
@[simp] theorem startTimer_tFine (s : State) : (startTimer s).tFine = s.tFine := rfl
@[simp] theorem startTimer_tfineValid (s : State) : (startTimer s).tfineValid = s.tfineValid := rfl
@[simp] theorem startTimer_out (s : State) : (startTimer s).out = s.out := rfl
@[simp] theorem startTimer_outValid (s : State) : (startTimer s).outValid = s.outValid := rfl
@[simp] theorem startTimer_seq (s : State) : (startTimer s).seq = s.seq := rfl
@[simp] theorem startTimer_err (s : State) : (startTimer s).err = s.err := rfl
@[simp] theorem startTimer_done (s : State) : (startTimer s).done = s.done := rfl
@[simp] theorem startTimer_rej (s : State) : (startTimer s).rej = s.rej := rfl
@[simp] theorem startTimer_rejc (s : State) : (startTimer s).rejc = s.rejc := rfl
@[simp] theorem startTimer_timer (s : State) : (startTimer s).timer = some 0 := rfl
@[simp] theorem startTimer_sensor (s : State) : (startTimer s).sensor = s.sensor := rfl
@[simp] theorem startTimer_inputs (s : State) : (startTimer s).inputs = s.inputs := rfl
@[simp] theorem startTimer_trace (s : State) : (startTimer s).trace = s.trace := rfl
@[simp] theorem startTimer_answer (s : State) : (startTimer s).answer = s.answer := rfl
@[simp] theorem startTimer_draws (s : State) : (startTimer s).draws = s.draws := rfl

/-! `passTime` -/

@[simp] theorem passTime_cfg (ms : Nat) (s : State) : (passTime ms s).cfg = s.cfg := rfl
@[simp] theorem passTime_calbuf (ms : Nat) (s : State) : (passTime ms s).calbuf = s.calbuf := rfl
@[simp] theorem passTime_auxbuf (ms : Nat) (s : State) : (passTime ms s).auxbuf = s.auxbuf := rfl
@[simp] theorem passTime_fldbuf (ms : Nat) (s : State) : (passTime ms s).fldbuf = s.fldbuf := rfl
@[simp] theorem passTime_cal (ms : Nat) (s : State) : (passTime ms s).cal = s.cal := rfl
@[simp] theorem passTime_calValid (ms : Nat) (s : State) : (passTime ms s).calValid = s.calValid := rfl
@[simp] theorem passTime_raw (ms : Nat) (s : State) : (passTime ms s).raw = s.raw := rfl
@[simp] theorem passTime_rawValid (ms : Nat) (s : State) : (passTime ms s).rawValid = s.rawValid := rfl
@[simp] theorem passTime_tFine (ms : Nat) (s : State) : (passTime ms s).tFine = s.tFine := rfl
@[simp] theorem passTime_tfineValid (ms : Nat) (s : State) : (passTime ms s).tfineValid = s.tfineValid := rfl
@[simp] theorem passTime_out (ms : Nat) (s : State) : (passTime ms s).out = s.out := rfl
@[simp] theorem passTime_outValid (ms : Nat) (s : State) : (passTime ms s).outValid = s.outValid := rfl
@[simp] theorem passTime_seq (ms : Nat) (s : State) : (passTime ms s).seq = s.seq := rfl
@[simp] theorem passTime_err (ms : Nat) (s : State) : (passTime ms s).err = s.err := rfl
@[simp] theorem passTime_done (ms : Nat) (s : State) : (passTime ms s).done = s.done := rfl
@[simp] theorem passTime_rej (ms : Nat) (s : State) : (passTime ms s).rej = s.rej := rfl
@[simp] theorem passTime_rejc (ms : Nat) (s : State) : (passTime ms s).rejc = s.rejc := rfl
@[simp] theorem passTime_timer (ms : Nat) (s : State) : (passTime ms s).timer = s.timer.map (· + ms) := rfl
@[simp] theorem passTime_sensor (ms : Nat) (s : State) : (passTime ms s).sensor = s.sensor := rfl
@[simp] theorem passTime_inputs (ms : Nat) (s : State) : (passTime ms s).inputs = s.inputs := rfl
@[simp] theorem passTime_trace (ms : Nat) (s : State) : (passTime ms s).trace = s.trace := rfl
@[simp] theorem passTime_answer (ms : Nat) (s : State) : (passTime ms s).answer = s.answer := rfl
@[simp] theorem passTime_draws (ms : Nat) (s : State) : (passTime ms s).draws = s.draws := rfl

/-! `nextDraw` -/

@[simp] theorem State.nextDraw_cfg (s : State) : (s.nextDraw).cfg = s.cfg := rfl
@[simp] theorem State.nextDraw_calbuf (s : State) : (s.nextDraw).calbuf = s.calbuf := rfl
@[simp] theorem State.nextDraw_auxbuf (s : State) : (s.nextDraw).auxbuf = s.auxbuf := rfl
@[simp] theorem State.nextDraw_fldbuf (s : State) : (s.nextDraw).fldbuf = s.fldbuf := rfl
@[simp] theorem State.nextDraw_cal (s : State) : (s.nextDraw).cal = s.cal := rfl
@[simp] theorem State.nextDraw_calValid (s : State) : (s.nextDraw).calValid = s.calValid := rfl
@[simp] theorem State.nextDraw_raw (s : State) : (s.nextDraw).raw = s.raw := rfl
@[simp] theorem State.nextDraw_rawValid (s : State) : (s.nextDraw).rawValid = s.rawValid := rfl
@[simp] theorem State.nextDraw_tFine (s : State) : (s.nextDraw).tFine = s.tFine := rfl
@[simp] theorem State.nextDraw_tfineValid (s : State) : (s.nextDraw).tfineValid = s.tfineValid := rfl
@[simp] theorem State.nextDraw_out (s : State) : (s.nextDraw).out = s.out := rfl
@[simp] theorem State.nextDraw_outValid (s : State) : (s.nextDraw).outValid = s.outValid := rfl
@[simp] theorem State.nextDraw_seq (s : State) : (s.nextDraw).seq = s.seq := rfl
@[simp] theorem State.nextDraw_err (s : State) : (s.nextDraw).err = s.err := rfl
@[simp] theorem State.nextDraw_done (s : State) : (s.nextDraw).done = s.done := rfl
@[simp] theorem State.nextDraw_rej (s : State) : (s.nextDraw).rej = s.rej := rfl
@[simp] theorem State.nextDraw_rejc (s : State) : (s.nextDraw).rejc = s.rejc := rfl
@[simp] theorem State.nextDraw_timer (s : State) : (s.nextDraw).timer = s.timer := rfl
@[simp] theorem State.nextDraw_sensor (s : State) : (s.nextDraw).sensor = s.sensor := rfl
@[simp] theorem State.nextDraw_inputs (s : State) : (s.nextDraw).inputs = s.inputs := rfl
@[simp] theorem State.nextDraw_trace (s : State) : (s.nextDraw).trace = s.trace := rfl
@[simp] theorem State.nextDraw_answer (s : State) : (s.nextDraw).answer = s.answer := rfl
@[simp] theorem State.nextDraw_draws (s : State) : (s.nextDraw).draws = s.draws + 1 := rfl

/-! `invalidateResults` -/

@[simp] theorem invalidateResults_cfg (s : State) : (invalidateResults s).cfg = s.cfg := rfl
@[simp] theorem invalidateResults_calbuf (s : State) : (invalidateResults s).calbuf = s.calbuf := rfl
@[simp] theorem invalidateResults_auxbuf (s : State) : (invalidateResults s).auxbuf = s.auxbuf := rfl
@[simp] theorem invalidateResults_fldbuf (s : State) : (invalidateResults s).fldbuf = s.fldbuf := rfl
@[simp] theorem invalidateResults_cal (s : State) : (invalidateResults s).cal = s.cal := rfl
@[simp] theorem invalidateResults_calValid (s : State) : (invalidateResults s).calValid = s.calValid := rfl
@[simp] theorem invalidateResults_raw (s : State) : (invalidateResults s).raw = s.raw := rfl
@[simp] theorem invalidateResults_rawValid (s : State) : (invalidateResults s).rawValid = s.rawValid := rfl
@[simp] theorem invalidateResults_tFine (s : State) : (invalidateResults s).tFine = s.tFine := rfl
@[simp] theorem invalidateResults_tfineValid (s : State) : (invalidateResults s).tfineValid = false := rfl
@[simp] theorem invalidateResults_out (s : State) : (invalidateResults s).out = s.out := rfl
@[simp] theorem invalidateResults_outValid (s : State) : (invalidateResults s).outValid = false := rfl
@[simp] theorem invalidateResults_seq (s : State) : (invalidateResults s).seq = s.seq := rfl
@[simp] theorem invalidateResults_err (s : State) : (invalidateResults s).err = s.err := rfl
@[simp] theorem invalidateResults_done (s : State) : (invalidateResults s).done = s.done := rfl
@[simp] theorem invalidateResults_rej (s : State) : (invalidateResults s).rej = s.rej := rfl
@[simp] theorem invalidateResults_rejc (s : State) : (invalidateResults s).rejc = s.rejc := rfl
@[simp] theorem invalidateResults_timer (s : State) : (invalidateResults s).timer = s.timer := rfl
@[simp] theorem invalidateResults_sensor (s : State) : (invalidateResults s).sensor = s.sensor := rfl
@[simp] theorem invalidateResults_inputs (s : State) : (invalidateResults s).inputs = s.inputs := rfl
@[simp] theorem invalidateResults_trace (s : State) : (invalidateResults s).trace = s.trace := rfl
@[simp] theorem invalidateResults_answer (s : State) : (invalidateResults s).answer = s.answer := rfl
@[simp] theorem invalidateResults_draws (s : State) : (invalidateResults s).draws = s.draws := rfl

/-! `clearCycle` -/

@[simp] theorem clearCycle_cfg (s : State) : (clearCycle s).cfg = s.cfg := rfl
@[simp] theorem clearCycle_calbuf (s : State) : (clearCycle s).calbuf = s.calbuf := rfl
@[simp] theorem clearCycle_auxbuf (s : State) : (clearCycle s).auxbuf = s.auxbuf := rfl
@[simp] theorem clearCycle_fldbuf (s : State) : (clearCycle s).fldbuf = s.fldbuf := rfl
@[simp] theorem clearCycle_cal (s : State) : (clearCycle s).cal = s.cal := rfl
@[simp] theorem clearCycle_calValid (s : State) : (clearCycle s).calValid = s.calValid := rfl
@[simp] theorem clearCycle_raw (s : State) : (clearCycle s).raw = s.raw := rfl
@[simp] theorem clearCycle_rawValid (s : State) : (clearCycle s).rawValid = false := rfl
@[simp] theorem clearCycle_tFine (s : State) : (clearCycle s).tFine = s.tFine := rfl
@[simp] theorem clearCycle_tfineValid (s : State) : (clearCycle s).tfineValid = false := rfl
@[simp] theorem clearCycle_out (s : State) : (clearCycle s).out = { s.out with rng := 0 } := rfl
@[simp] theorem clearCycle_outValid (s : State) : (clearCycle s).outValid = false := rfl
@[simp] theorem clearCycle_seq (s : State) : (clearCycle s).seq = { s.seq with polls := 0 } := rfl
@[simp] theorem clearCycle_err (s : State) : (clearCycle s).err = s.err := rfl
@[simp] theorem clearCycle_done (s : State) : (clearCycle s).done = s.done := rfl
@[simp] theorem clearCycle_rej (s : State) : (clearCycle s).rej = s.rej := rfl
@[simp] theorem clearCycle_rejc (s : State) : (clearCycle s).rejc = s.rejc := rfl
@[simp] theorem clearCycle_timer (s : State) : (clearCycle s).timer = s.timer := rfl
@[simp] theorem clearCycle_sensor (s : State) : (clearCycle s).sensor = s.sensor := rfl
@[simp] theorem clearCycle_inputs (s : State) : (clearCycle s).inputs = s.inputs := rfl
@[simp] theorem clearCycle_trace (s : State) : (clearCycle s).trace = s.trace := rfl
@[simp] theorem clearCycle_answer (s : State) : (clearCycle s).answer = s.answer := rfl
@[simp] theorem clearCycle_draws (s : State) : (clearCycle s).draws = s.draws := rfl

/-! `afterBusRead` -/

@[simp] theorem afterBusRead_cfg (f : Bool) (a : Byte) (n : Nat) (s : State) : (afterBusRead s f a n).cfg = s.cfg := rfl
@[simp] theorem afterBusRead_calbuf (f : Bool) (a : Byte) (n : Nat) (s : State) : (afterBusRead s f a n).calbuf = s.calbuf := rfl
@[simp] theorem afterBusRead_auxbuf (f : Bool) (a : Byte) (n : Nat) (s : State) : (afterBusRead s f a n).auxbuf = s.auxbuf := rfl
@[simp] theorem afterBusRead_fldbuf (f : Bool) (a : Byte) (n : Nat) (s : State) : (afterBusRead s f a n).fldbuf = s.fldbuf := rfl
@[simp] theorem afterBusRead_cal (f : Bool) (a : Byte) (n : Nat) (s : State) : (afterBusRead s f a n).cal = s.cal := rfl
@[simp] theorem afterBusRead_calValid (f : Bool) (a : Byte) (n : Nat) (s : State) :
    (afterBusRead s f a n).calValid = s.calValid := rfl
@[simp] theorem afterBusRead_raw (f : Bool) (a : Byte) (n : Nat) (s : State) : (afterBusRead s f a n).raw = s.raw := rfl
@[simp] theorem afterBusRead_rawValid (f : Bool) (a : Byte) (n : Nat) (s : State) :
    (afterBusRead s f a n).rawValid = s.rawValid := rfl
@[simp] theorem afterBusRead_tFine (f : Bool) (a : Byte) (n : Nat) (s : State) : (afterBusRead s f a n).tFine = s.tFine := rfl
@[simp] theorem afterBusRead_tfineValid (f : Bool) (a : Byte) (n : Nat) (s : State) :
    (afterBusRead s f a n).tfineValid = s.tfineValid := rfl
@[simp] theorem afterBusRead_out (f : Bool) (a : Byte) (n : Nat) (s : State) : (afterBusRead s f a n).out = s.out := rfl
@[simp] theorem afterBusRead_outValid (f : Bool) (a : Byte) (n : Nat) (s : State) :
    (afterBusRead s f a n).outValid = s.outValid := rfl
@[simp] theorem afterBusRead_seq (f : Bool) (a : Byte) (n : Nat) (s : State) : (afterBusRead s f a n).seq = s.seq := rfl
@[simp] theorem afterBusRead_err (f : Bool) (a : Byte) (n : Nat) (s : State) : (afterBusRead s f a n).err = s.err := rfl
@[simp] theorem afterBusRead_done (f : Bool) (a : Byte) (n : Nat) (s : State) : (afterBusRead s f a n).done = s.done := rfl
@[simp] theorem afterBusRead_rej (f : Bool) (a : Byte) (n : Nat) (s : State) : (afterBusRead s f a n).rej = s.rej := rfl
@[simp] theorem afterBusRead_rejc (f : Bool) (a : Byte) (n : Nat) (s : State) : (afterBusRead s f a n).rejc = s.rejc := rfl
@[simp] theorem afterBusRead_timer (f : Bool) (a : Byte) (n : Nat) (s : State) : (afterBusRead s f a n).timer = s.timer := rfl
@[simp] theorem afterBusRead_sensor (f : Bool) (a : Byte) (n : Nat) (s : State) :
    (afterBusRead s f a n).sensor = s.sensor.afterRead a.toNat n := rfl
@[simp] theorem afterBusRead_inputs (f : Bool) (a : Byte) (n : Nat) (s : State) : (afterBusRead s f a n).inputs = s.inputs := rfl
@[simp] theorem afterBusRead_trace (f : Bool) (a : Byte) (n : Nat) (s : State) :
    (afterBusRead s f a n).trace = ⟨.read a n, if f then .error else .ok (burst s a n)⟩ :: s.trace := rfl
@[simp] theorem afterBusRead_answer (f : Bool) (a : Byte) (n : Nat) (s : State) : (afterBusRead s f a n).answer = s.answer := rfl
@[simp] theorem afterBusRead_draws (f : Bool) (a : Byte) (n : Nat) (s : State) : (afterBusRead s f a n).draws = s.draws + 1 := rfl

/-! `afterBusWrite` -/

@[simp] theorem afterBusWrite_cfg (f : Bool) (a b : Byte) (s : State) : (afterBusWrite s f a b).cfg = s.cfg := rfl
@[simp] theorem afterBusWrite_calbuf (f : Bool) (a b : Byte) (s : State) : (afterBusWrite s f a b).calbuf = s.calbuf := rfl
@[simp] theorem afterBusWrite_auxbuf (f : Bool) (a b : Byte) (s : State) : (afterBusWrite s f a b).auxbuf = s.auxbuf := rfl
@[simp] theorem afterBusWrite_fldbuf (f : Bool) (a b : Byte) (s : State) : (afterBusWrite s f a b).fldbuf = s.fldbuf := rfl
@[simp] theorem afterBusWrite_cal (f : Bool) (a b : Byte) (s : State) : (afterBusWrite s f a b).cal = s.cal := rfl
@[simp] theorem afterBusWrite_calValid (f : Bool) (a b : Byte) (s : State) : (afterBusWrite s f a b).calValid = s.calValid := rfl
@[simp] theorem afterBusWrite_raw (f : Bool) (a b : Byte) (s : State) : (afterBusWrite s f a b).raw = s.raw := rfl
@[simp] theorem afterBusWrite_rawValid (f : Bool) (a b : Byte) (s : State) : (afterBusWrite s f a b).rawValid = s.rawValid := rfl
@[simp] theorem afterBusWrite_tFine (f : Bool) (a b : Byte) (s : State) : (afterBusWrite s f a b).tFine = s.tFine := rfl
@[simp] theorem afterBusWrite_tfineValid (f : Bool) (a b : Byte) (s : State) :
    (afterBusWrite s f a b).tfineValid = s.tfineValid := rfl
@[simp] theorem afterBusWrite_out (f : Bool) (a b : Byte) (s : State) : (afterBusWrite s f a b).out = s.out := rfl
@[simp] theorem afterBusWrite_outValid (f : Bool) (a b : Byte) (s : State) : (afterBusWrite s f a b).outValid = s.outValid := rfl
@[simp] theorem afterBusWrite_seq (f : Bool) (a b : Byte) (s : State) : (afterBusWrite s f a b).seq = s.seq := rfl
@[simp] theorem afterBusWrite_err (f : Bool) (a b : Byte) (s : State) : (afterBusWrite s f a b).err = s.err := rfl
@[simp] theorem afterBusWrite_done (f : Bool) (a b : Byte) (s : State) : (afterBusWrite s f a b).done = s.done := rfl
@[simp] theorem afterBusWrite_rej (f : Bool) (a b : Byte) (s : State) : (afterBusWrite s f a b).rej = s.rej := rfl
@[simp] theorem afterBusWrite_rejc (f : Bool) (a b : Byte) (s : State) : (afterBusWrite s f a b).rejc = s.rejc := rfl
@[simp] theorem afterBusWrite_timer (f : Bool) (a b : Byte) (s : State) : (afterBusWrite s f a b).timer = s.timer := rfl
@[simp] theorem afterBusWrite_sensor (f : Bool) (a b : Byte) (s : State) :
    (afterBusWrite s f a b).sensor = (if f then s.sensor.afterWriteAttempt a.toNat else s.sensor.afterWrite a.toNat b) := rfl
@[simp] theorem afterBusWrite_inputs (f : Bool) (a b : Byte) (s : State) : (afterBusWrite s f a b).inputs = s.inputs := rfl
@[simp] theorem afterBusWrite_trace (f : Bool) (a b : Byte) (s : State) :
    (afterBusWrite s f a b).trace = ⟨.write a [b], if f then .error else .ok []⟩ :: s.trace := rfl
@[simp] theorem afterBusWrite_answer (f : Bool) (a b : Byte) (s : State) : (afterBusWrite s f a b).answer = s.answer := rfl
@[simp] theorem afterBusWrite_draws (f : Bool) (a b : Byte) (s : State) : (afterBusWrite s f a b).draws = s.draws + 1 := rfl

/-! `decodeCoefficients` -/

@[simp] theorem decodeCoefficients_cfg (s : State) : (decodeCoefficients s).cfg = s.cfg := rfl
@[simp] theorem decodeCoefficients_calbuf (s : State) : (decodeCoefficients s).calbuf = s.calbuf := rfl
@[simp] theorem decodeCoefficients_auxbuf (s : State) : (decodeCoefficients s).auxbuf = s.auxbuf := rfl
@[simp] theorem decodeCoefficients_fldbuf (s : State) : (decodeCoefficients s).fldbuf = s.fldbuf := rfl
@[simp] theorem decodeCoefficients_cal (s : State) :
    (decodeCoefficients s).cal = calDecode Config.calLayout s.calbuf s.auxbuf := rfl
@[simp] theorem decodeCoefficients_calValid (s : State) : (decodeCoefficients s).calValid = true := rfl
@[simp] theorem decodeCoefficients_raw (s : State) : (decodeCoefficients s).raw = s.raw := rfl
@[simp] theorem decodeCoefficients_rawValid (s : State) : (decodeCoefficients s).rawValid = s.rawValid := rfl
@[simp] theorem decodeCoefficients_tFine (s : State) : (decodeCoefficients s).tFine = s.tFine := rfl
@[simp] theorem decodeCoefficients_tfineValid (s : State) : (decodeCoefficients s).tfineValid = s.tfineValid := rfl
@[simp] theorem decodeCoefficients_out (s : State) : (decodeCoefficients s).out = s.out := rfl
@[simp] theorem decodeCoefficients_outValid (s : State) : (decodeCoefficients s).outValid = s.outValid := rfl
@[simp] theorem decodeCoefficients_seq (s : State) : (decodeCoefficients s).seq = s.seq := rfl
@[simp] theorem decodeCoefficients_err (s : State) : (decodeCoefficients s).err = s.err := rfl
@[simp] theorem decodeCoefficients_done (s : State) : (decodeCoefficients s).done = s.done := rfl
@[simp] theorem decodeCoefficients_rej (s : State) : (decodeCoefficients s).rej = s.rej := rfl
@[simp] theorem decodeCoefficients_rejc (s : State) : (decodeCoefficients s).rejc = s.rejc := rfl
@[simp] theorem decodeCoefficients_timer (s : State) : (decodeCoefficients s).timer = s.timer := rfl
@[simp] theorem decodeCoefficients_sensor (s : State) : (decodeCoefficients s).sensor = s.sensor := rfl
@[simp] theorem decodeCoefficients_inputs (s : State) : (decodeCoefficients s).inputs = s.inputs := rfl
@[simp] theorem decodeCoefficients_trace (s : State) : (decodeCoefficients s).trace = s.trace := rfl
@[simp] theorem decodeCoefficients_answer (s : State) : (decodeCoefficients s).answer = s.answer := rfl
@[simp] theorem decodeCoefficients_draws (s : State) : (decodeCoefficients s).draws = s.draws := rfl

/-! `decodeSample` -/

@[simp] theorem decodeSample_cfg (s : State) : (decodeSample s).cfg = s.cfg := rfl
@[simp] theorem decodeSample_calbuf (s : State) : (decodeSample s).calbuf = s.calbuf := rfl
@[simp] theorem decodeSample_auxbuf (s : State) : (decodeSample s).auxbuf = s.auxbuf := rfl
@[simp] theorem decodeSample_fldbuf (s : State) : (decodeSample s).fldbuf = s.fldbuf := rfl
@[simp] theorem decodeSample_cal (s : State) : (decodeSample s).cal = s.cal := rfl
@[simp] theorem decodeSample_calValid (s : State) : (decodeSample s).calValid = s.calValid := rfl
@[simp] theorem decodeSample_raw (s : State) : (decodeSample s).raw = fieldDecode Config.fieldLayout s.fldbuf := rfl
@[simp] theorem decodeSample_rawValid (s : State) : (decodeSample s).rawValid = true := rfl
@[simp] theorem decodeSample_tFine (s : State) : (decodeSample s).tFine = s.tFine := rfl
@[simp] theorem decodeSample_tfineValid (s : State) : (decodeSample s).tfineValid = s.tfineValid := rfl
@[simp] theorem decodeSample_out (s : State) : (decodeSample s).out = s.out := rfl
@[simp] theorem decodeSample_outValid (s : State) : (decodeSample s).outValid = s.outValid := rfl
@[simp] theorem decodeSample_seq (s : State) : (decodeSample s).seq = s.seq := rfl
@[simp] theorem decodeSample_err (s : State) : (decodeSample s).err = s.err := rfl
@[simp] theorem decodeSample_done (s : State) : (decodeSample s).done = s.done := rfl
@[simp] theorem decodeSample_rej (s : State) : (decodeSample s).rej = s.rej := rfl
@[simp] theorem decodeSample_rejc (s : State) : (decodeSample s).rejc = s.rejc := rfl
@[simp] theorem decodeSample_timer (s : State) : (decodeSample s).timer = s.timer := rfl
@[simp] theorem decodeSample_sensor (s : State) : (decodeSample s).sensor = s.sensor := rfl
@[simp] theorem decodeSample_inputs (s : State) : (decodeSample s).inputs = s.inputs := rfl
@[simp] theorem decodeSample_trace (s : State) : (decodeSample s).trace = s.trace := rfl
@[simp] theorem decodeSample_answer (s : State) : (decodeSample s).answer = s.answer := rfl
@[simp] theorem decodeSample_draws (s : State) : (decodeSample s).draws = s.draws := rfl

/-! `tempBody` -/

@[simp] theorem tempBody_cfg (s : State) : (tempBody s).cfg = s.cfg := by cases s; rfl
@[simp] theorem tempBody_calbuf (s : State) : (tempBody s).calbuf = s.calbuf := by cases s; rfl
@[simp] theorem tempBody_auxbuf (s : State) : (tempBody s).auxbuf = s.auxbuf := by cases s; rfl
@[simp] theorem tempBody_fldbuf (s : State) : (tempBody s).fldbuf = s.fldbuf := by cases s; rfl
@[simp] theorem tempBody_cal (s : State) : (tempBody s).cal = s.cal := by cases s; rfl
@[simp] theorem tempBody_calValid (s : State) : (tempBody s).calValid = s.calValid := by cases s; rfl
@[simp] theorem tempBody_raw (s : State) : (tempBody s).raw = s.raw := by cases s; rfl
@[simp] theorem tempBody_rawValid (s : State) : (tempBody s).rawValid = s.rawValid := by cases s; rfl
@[simp] theorem tempBody_tFine (s : State) :
    (tempBody s).tFine = store 32 (compT (uval s.raw.temp) (tempCoefs s.cal)).1 := by cases s; rfl
@[simp] theorem tempBody_tfineValid (s : State) : (tempBody s).tfineValid = true := by cases s; rfl
@[simp] theorem tempBody_outValid (s : State) : (tempBody s).outValid = s.outValid := by cases s; rfl
@[simp] theorem tempBody_seq (s : State) : (tempBody s).seq = s.seq := by cases s; rfl
@[simp] theorem tempBody_err (s : State) : (tempBody s).err = s.err := by cases s; rfl
@[simp] theorem tempBody_done (s : State) : (tempBody s).done = s.done := by cases s; rfl
@[simp] theorem tempBody_rej (s : State) : (tempBody s).rej = s.rej := by cases s; rfl
@[simp] theorem tempBody_rejc (s : State) : (tempBody s).rejc = s.rejc := by cases s; rfl
@[simp] theorem tempBody_timer (s : State) : (tempBody s).timer = s.timer := by cases s; rfl
@[simp] theorem tempBody_sensor (s : State) : (tempBody s).sensor = s.sensor := by cases s; rfl
@[simp] theorem tempBody_inputs (s : State) : (tempBody s).inputs = s.inputs := by cases s; rfl
@[simp] theorem tempBody_trace (s : State) : (tempBody s).trace = s.trace := by cases s; rfl
@[simp] theorem tempBody_answer (s : State) : (tempBody s).answer = s.answer := by cases s; rfl
@[simp] theorem tempBody_draws (s : State) : (tempBody s).draws = s.draws := by cases s; rfl

/-! `humBody` -/

@[simp] theorem humBody_cfg (s : State) : (humBody s).cfg = s.cfg := by cases s; rfl
@[simp] theorem humBody_calbuf (s : State) : (humBody s).calbuf = s.calbuf := by cases s; rfl
@[simp] theorem humBody_auxbuf (s : State) : (humBody s).auxbuf = s.auxbuf := by cases s; rfl
@[simp] theorem humBody_fldbuf (s : State) : (humBody s).fldbuf = s.fldbuf := by cases s; rfl
@[simp] theorem humBody_cal (s : State) : (humBody s).cal = s.cal := by cases s; rfl
@[simp] theorem humBody_calValid (s : State) : (humBody s).calValid = s.calValid := by cases s; rfl
@[simp] theorem humBody_raw (s : State) : (humBody s).raw = s.raw := by cases s; rfl
@[simp] theorem humBody_rawValid (s : State) : (humBody s).rawValid = s.rawValid := by cases s; rfl
@[simp] theorem humBody_tFine (s : State) : (humBody s).tFine = s.tFine := by cases s; rfl
@[simp] theorem humBody_tfineValid (s : State) : (humBody s).tfineValid = s.tfineValid := by cases s; rfl
@[simp] theorem humBody_out (s : State) :
    (humBody s).out = { s.out with hum := store 32 (humResult s), rng := setRng 2 (humOutOfBand (humResult s)) s.out.rng } := by cases s; rfl
@[simp] theorem humBody_outValid (s : State) : (humBody s).outValid = s.outValid := by cases s; rfl
@[simp] theorem humBody_seq (s : State) : (humBody s).seq = s.seq := by cases s; rfl
@[simp] theorem humBody_err (s : State) : (humBody s).err = s.err := by cases s; rfl
@[simp] theorem humBody_done (s : State) : (humBody s).done = s.done := by cases s; rfl
@[simp] theorem humBody_rej (s : State) : (humBody s).rej = s.rej := by cases s; rfl
@[simp] theorem humBody_rejc (s : State) : (humBody s).rejc = s.rejc := by cases s; rfl
@[simp] theorem humBody_timer (s : State) : (humBody s).timer = s.timer := by cases s; rfl
@[simp] theorem humBody_sensor (s : State) : (humBody s).sensor = s.sensor := by cases s; rfl
@[simp] theorem humBody_inputs (s : State) : (humBody s).inputs = s.inputs := by cases s; rfl
@[simp] theorem humBody_trace (s : State) : (humBody s).trace = s.trace := by cases s; rfl
@[simp] theorem humBody_answer (s : State) : (humBody s).answer = s.answer := by cases s; rfl
@[simp] theorem humBody_draws (s : State) : (humBody s).draws = s.draws + 1 := by cases s; rfl

/-! `gasBody` -/

@[simp] theorem gasBody_cfg (s : State) : (gasBody s).cfg = s.cfg := by cases s; rfl
@[simp] theorem gasBody_calbuf (s : State) : (gasBody s).calbuf = s.calbuf := by cases s; rfl
@[simp] theorem gasBody_auxbuf (s : State) : (gasBody s).auxbuf = s.auxbuf := by cases s; rfl
@[simp] theorem gasBody_fldbuf (s : State) : (gasBody s).fldbuf = s.fldbuf := by cases s; rfl
@[simp] theorem gasBody_cal (s : State) : (gasBody s).cal = s.cal := by cases s; rfl
@[simp] theorem gasBody_calValid (s : State) : (gasBody s).calValid = s.calValid := by cases s; rfl
@[simp] theorem gasBody_raw (s : State) : (gasBody s).raw = s.raw := by cases s; rfl
@[simp] theorem gasBody_rawValid (s : State) : (gasBody s).rawValid = s.rawValid := by cases s; rfl
@[simp] theorem gasBody_tFine (s : State) : (gasBody s).tFine = s.tFine := by cases s; rfl
@[simp] theorem gasBody_tfineValid (s : State) : (gasBody s).tfineValid = s.tfineValid := by cases s; rfl
@[simp] theorem gasBody_outValid (s : State) : (gasBody s).outValid = s.outValid := by cases s; rfl
@[simp] theorem gasBody_seq (s : State) : (gasBody s).seq = s.seq := by cases s; rfl
@[simp] theorem gasBody_err (s : State) : (gasBody s).err = s.err := by cases s; rfl
@[simp] theorem gasBody_done (s : State) : (gasBody s).done = s.done := by cases s; rfl
@[simp] theorem gasBody_rej (s : State) : (gasBody s).rej = s.rej := by cases s; rfl
@[simp] theorem gasBody_rejc (s : State) : (gasBody s).rejc = s.rejc := by cases s; rfl
@[simp] theorem gasBody_timer (s : State) : (gasBody s).timer = s.timer := by cases s; rfl
@[simp] theorem gasBody_sensor (s : State) : (gasBody s).sensor = s.sensor := by cases s; rfl
@[simp] theorem gasBody_inputs (s : State) : (gasBody s).inputs = s.inputs := by cases s; rfl
@[simp] theorem gasBody_trace (s : State) : (gasBody s).trace = s.trace := by cases s; rfl
@[simp] theorem gasBody_answer (s : State) : (gasBody s).answer = s.answer := by cases s; rfl
@[simp] theorem gasBody_draws (s : State) : (gasBody s).draws = s.draws + 1 := by cases s; rfl

/-! `writeResHeat` -/

@[simp] theorem writeResHeat_cfg (s : State) :
    (writeResHeat s).cfg = { s.cfg with resHeat := heatRes Config.heatPoly (uval s.cfg.heatTemp) (sval s.cfg.ambTemp) (heatCoefs s.cal) } := by cases s; rfl
@[simp] theorem writeResHeat_calbuf (s : State) : (writeResHeat s).calbuf = s.calbuf := by cases s; rfl
@[simp] theorem writeResHeat_auxbuf (s : State) : (writeResHeat s).auxbuf = s.auxbuf := by cases s; rfl
@[simp] theorem writeResHeat_fldbuf (s : State) : (writeResHeat s).fldbuf = s.fldbuf := by cases s; rfl
@[simp] theorem writeResHeat_cal (s : State) : (writeResHeat s).cal = s.cal := by cases s; rfl
@[simp] theorem writeResHeat_calValid (s : State) : (writeResHeat s).calValid = s.calValid := by cases s; rfl
@[simp] theorem writeResHeat_raw (s : State) : (writeResHeat s).raw = s.raw := by cases s; rfl
@[simp] theorem writeResHeat_rawValid (s : State) : (writeResHeat s).rawValid = s.rawValid := by cases s; rfl
@[simp] theorem writeResHeat_tFine (s : State) : (writeResHeat s).tFine = s.tFine := by cases s; rfl
@[simp] theorem writeResHeat_tfineValid (s : State) : (writeResHeat s).tfineValid = s.tfineValid := by cases s; rfl
@[simp] theorem writeResHeat_out (s : State) : (writeResHeat s).out = s.out := by cases s; rfl
@[simp] theorem writeResHeat_outValid (s : State) : (writeResHeat s).outValid = s.outValid := by cases s; rfl
@[simp] theorem writeResHeat_seq (s : State) : (writeResHeat s).seq = s.seq := by cases s; rfl
@[simp] theorem writeResHeat_err (s : State) : (writeResHeat s).err = s.err := by cases s; rfl
@[simp] theorem writeResHeat_done (s : State) : (writeResHeat s).done = s.done := by cases s; rfl
@[simp] theorem writeResHeat_rej (s : State) : (writeResHeat s).rej = s.rej := by cases s; rfl
@[simp] theorem writeResHeat_rejc (s : State) : (writeResHeat s).rejc = s.rejc := by cases s; rfl
@[simp] theorem writeResHeat_timer (s : State) : (writeResHeat s).timer = s.timer := by cases s; rfl
@[simp] theorem writeResHeat_sensor (s : State) : (writeResHeat s).sensor = s.sensor := by cases s; rfl
@[simp] theorem writeResHeat_inputs (s : State) : (writeResHeat s).inputs = s.inputs := by cases s; rfl
@[simp] theorem writeResHeat_trace (s : State) : (writeResHeat s).trace = s.trace := by cases s; rfl
@[simp] theorem writeResHeat_answer (s : State) : (writeResHeat s).answer = s.answer := by cases s; rfl
@[simp] theorem writeResHeat_draws (s : State) : (writeResHeat s).draws = s.draws := by cases s; rfl

/-! `writeGasWait` -/

@[simp] theorem writeGasWait_cfg (s : State) : (writeGasWait s).cfg = { s.cfg with gasWait := heatDur s.cfg.heatDur.toNat } := rfl
@[simp] theorem writeGasWait_calbuf (s : State) : (writeGasWait s).calbuf = s.calbuf := rfl
@[simp] theorem writeGasWait_auxbuf (s : State) : (writeGasWait s).auxbuf = s.auxbuf := rfl
@[simp] theorem writeGasWait_fldbuf (s : State) : (writeGasWait s).fldbuf = s.fldbuf := rfl
@[simp] theorem writeGasWait_cal (s : State) : (writeGasWait s).cal = s.cal := rfl
@[simp] theorem writeGasWait_calValid (s : State) : (writeGasWait s).calValid = s.calValid := rfl
@[simp] theorem writeGasWait_raw (s : State) : (writeGasWait s).raw = s.raw := rfl
@[simp] theorem writeGasWait_rawValid (s : State) : (writeGasWait s).rawValid = s.rawValid := rfl
@[simp] theorem writeGasWait_tFine (s : State) : (writeGasWait s).tFine = s.tFine := rfl
@[simp] theorem writeGasWait_tfineValid (s : State) : (writeGasWait s).tfineValid = s.tfineValid := rfl
@[simp] theorem writeGasWait_out (s : State) : (writeGasWait s).out = s.out := rfl
@[simp] theorem writeGasWait_outValid (s : State) : (writeGasWait s).outValid = s.outValid := rfl
@[simp] theorem writeGasWait_seq (s : State) : (writeGasWait s).seq = s.seq := rfl
@[simp] theorem writeGasWait_err (s : State) : (writeGasWait s).err = s.err := rfl
@[simp] theorem writeGasWait_done (s : State) : (writeGasWait s).done = s.done := rfl
@[simp] theorem writeGasWait_rej (s : State) : (writeGasWait s).rej = s.rej := rfl
@[simp] theorem writeGasWait_rejc (s : State) : (writeGasWait s).rejc = s.rejc := rfl
@[simp] theorem writeGasWait_timer (s : State) : (writeGasWait s).timer = s.timer := rfl
@[simp] theorem writeGasWait_sensor (s : State) : (writeGasWait s).sensor = s.sensor := rfl
@[simp] theorem writeGasWait_inputs (s : State) : (writeGasWait s).inputs = s.inputs := rfl
@[simp] theorem writeGasWait_trace (s : State) : (writeGasWait s).trace = s.trace := rfl
@[simp] theorem writeGasWait_answer (s : State) : (writeGasWait s).answer = s.answer := rfl
@[simp] theorem writeGasWait_draws (s : State) : (writeGasWait s).draws = s.draws := rfl

/-! `answerRead` -/

@[simp] theorem answerRead_cfg (hr : BitVec 8) (s : State) : (answerRead hr s).cfg = s.cfg := rfl
@[simp] theorem answerRead_calbuf (hr : BitVec 8) (s : State) : (answerRead hr s).calbuf = s.calbuf := rfl
@[simp] theorem answerRead_auxbuf (hr : BitVec 8) (s : State) : (answerRead hr s).auxbuf = s.auxbuf := rfl
@[simp] theorem answerRead_fldbuf (hr : BitVec 8) (s : State) : (answerRead hr s).fldbuf = s.fldbuf := rfl
@[simp] theorem answerRead_cal (hr : BitVec 8) (s : State) : (answerRead hr s).cal = s.cal := rfl
@[simp] theorem answerRead_calValid (hr : BitVec 8) (s : State) : (answerRead hr s).calValid = s.calValid := rfl
@[simp] theorem answerRead_raw (hr : BitVec 8) (s : State) : (answerRead hr s).raw = s.raw := rfl
@[simp] theorem answerRead_rawValid (hr : BitVec 8) (s : State) : (answerRead hr s).rawValid = s.rawValid := rfl
@[simp] theorem answerRead_tFine (hr : BitVec 8) (s : State) : (answerRead hr s).tFine = s.tFine := rfl
@[simp] theorem answerRead_tfineValid (hr : BitVec 8) (s : State) : (answerRead hr s).tfineValid = s.tfineValid := rfl
@[simp] theorem answerRead_out (hr : BitVec 8) (s : State) : (answerRead hr s).out = s.out := rfl
@[simp] theorem answerRead_outValid (hr : BitVec 8) (s : State) : (answerRead hr s).outValid = s.outValid := rfl
@[simp] theorem answerRead_seq (hr : BitVec 8) (s : State) : (answerRead hr s).seq = s.seq := rfl
@[simp] theorem answerRead_err (hr : BitVec 8) (s : State) : (answerRead hr s).err = s.err := rfl
@[simp] theorem answerRead_done (hr : BitVec 8) (s : State) : (answerRead hr s).done = s.done := rfl
@[simp] theorem answerRead_rej (hr : BitVec 8) (s : State) : (answerRead hr s).rej = s.rej := rfl
@[simp] theorem answerRead_rejc (hr : BitVec 8) (s : State) : (answerRead hr s).rejc = s.rejc := rfl
@[simp] theorem answerRead_timer (hr : BitVec 8) (s : State) : (answerRead hr s).timer = s.timer := rfl
@[simp] theorem answerRead_sensor (hr : BitVec 8) (s : State) : (answerRead hr s).sensor = s.sensor := rfl
@[simp] theorem answerRead_inputs (hr : BitVec 8) (s : State) : (answerRead hr s).inputs = s.inputs := rfl
@[simp] theorem answerRead_trace (hr : BitVec 8) (s : State) : (answerRead hr s).trace = s.trace := rfl
@[simp] theorem answerRead_answer (hr : BitVec 8) (s : State) : (answerRead hr s).answer = some ⟨hr, hostRead s hr⟩ := rfl
@[simp] theorem answerRead_draws (hr : BitVec 8) (s : State) : (answerRead hr s).draws = s.draws := rfl

/-! `scheduleCommand` -/

@[simp] theorem scheduleCommand_cfg (d : Word) (s : State) : (scheduleCommand d s).cfg = s.cfg := rfl
@[simp] theorem scheduleCommand_calbuf (d : Word) (s : State) : (scheduleCommand d s).calbuf = s.calbuf := rfl
@[simp] theorem scheduleCommand_auxbuf (d : Word) (s : State) : (scheduleCommand d s).auxbuf = s.auxbuf := rfl
@[simp] theorem scheduleCommand_fldbuf (d : Word) (s : State) : (scheduleCommand d s).fldbuf = s.fldbuf := rfl
@[simp] theorem scheduleCommand_cal (d : Word) (s : State) : (scheduleCommand d s).cal = s.cal := rfl
@[simp] theorem scheduleCommand_calValid (d : Word) (s : State) : (scheduleCommand d s).calValid = s.calValid := rfl
@[simp] theorem scheduleCommand_raw (d : Word) (s : State) : (scheduleCommand d s).raw = s.raw := rfl
@[simp] theorem scheduleCommand_rawValid (d : Word) (s : State) : (scheduleCommand d s).rawValid = s.rawValid := rfl
@[simp] theorem scheduleCommand_tFine (d : Word) (s : State) : (scheduleCommand d s).tFine = s.tFine := rfl
@[simp] theorem scheduleCommand_tfineValid (d : Word) (s : State) : (scheduleCommand d s).tfineValid = s.tfineValid := rfl
@[simp] theorem scheduleCommand_out (d : Word) (s : State) : (scheduleCommand d s).out = s.out := rfl
@[simp] theorem scheduleCommand_outValid (d : Word) (s : State) : (scheduleCommand d s).outValid = s.outValid := rfl
@[simp] theorem scheduleCommand_seq (d : Word) (s : State) : (scheduleCommand d s).seq = s.seq := rfl
@[simp] theorem scheduleCommand_err (d : Word) (s : State) : (scheduleCommand d s).err = s.err := rfl
@[simp] theorem scheduleCommand_done (d : Word) (s : State) : (scheduleCommand d s).done = s.done := rfl
@[simp] theorem scheduleCommand_rej (d : Word) (s : State) : (scheduleCommand d s).rej = s.rej := rfl
@[simp] theorem scheduleCommand_rejc (d : Word) (s : State) : (scheduleCommand d s).rejc = s.rejc := rfl
@[simp] theorem scheduleCommand_timer (d : Word) (s : State) : (scheduleCommand d s).timer = s.timer := rfl
@[simp] theorem scheduleCommand_sensor (d : Word) (s : State) : (scheduleCommand d s).sensor = s.sensor := rfl
@[simp] theorem scheduleCommand_inputs (d : Word) (s : State) :
    (scheduleCommand d s).inputs = .host (.write 0 d) :: s.inputs := rfl
@[simp] theorem scheduleCommand_trace (d : Word) (s : State) : (scheduleCommand d s).trace = s.trace := rfl
@[simp] theorem scheduleCommand_answer (d : Word) (s : State) : (scheduleCommand d s).answer = s.answer := rfl
@[simp] theorem scheduleCommand_draws (d : Word) (s : State) : (scheduleCommand d s).draws = s.draws := rfl

/-! `pressBody`, which writes `OUT.press`, `OUT.rng` and the draw counter on both its paths -/

@[simp] theorem pressBody_cfg (s : State) : (pressBody s).cfg = s.cfg := by unfold pressBody; split <;> rfl
@[simp] theorem pressBody_calbuf (s : State) : (pressBody s).calbuf = s.calbuf := by unfold pressBody; split <;> rfl
@[simp] theorem pressBody_auxbuf (s : State) : (pressBody s).auxbuf = s.auxbuf := by unfold pressBody; split <;> rfl
@[simp] theorem pressBody_fldbuf (s : State) : (pressBody s).fldbuf = s.fldbuf := by unfold pressBody; split <;> rfl
@[simp] theorem pressBody_cal (s : State) : (pressBody s).cal = s.cal := by unfold pressBody; split <;> rfl
@[simp] theorem pressBody_calValid (s : State) : (pressBody s).calValid = s.calValid := by unfold pressBody; split <;> rfl
@[simp] theorem pressBody_raw (s : State) : (pressBody s).raw = s.raw := by unfold pressBody; split <;> rfl
@[simp] theorem pressBody_rawValid (s : State) : (pressBody s).rawValid = s.rawValid := by unfold pressBody; split <;> rfl
@[simp] theorem pressBody_tFine (s : State) : (pressBody s).tFine = s.tFine := by unfold pressBody; split <;> rfl
@[simp] theorem pressBody_tfineValid (s : State) : (pressBody s).tfineValid = s.tfineValid := by unfold pressBody; split <;> rfl
@[simp] theorem pressBody_outValid (s : State) : (pressBody s).outValid = s.outValid := by unfold pressBody; split <;> rfl
@[simp] theorem pressBody_seq (s : State) : (pressBody s).seq = s.seq := by unfold pressBody; split <;> rfl
@[simp] theorem pressBody_err (s : State) : (pressBody s).err = s.err := by unfold pressBody; split <;> rfl
@[simp] theorem pressBody_done (s : State) : (pressBody s).done = s.done := by unfold pressBody; split <;> rfl
@[simp] theorem pressBody_rej (s : State) : (pressBody s).rej = s.rej := by unfold pressBody; split <;> rfl
@[simp] theorem pressBody_rejc (s : State) : (pressBody s).rejc = s.rejc := by unfold pressBody; split <;> rfl
@[simp] theorem pressBody_timer (s : State) : (pressBody s).timer = s.timer := by unfold pressBody; split <;> rfl
@[simp] theorem pressBody_sensor (s : State) : (pressBody s).sensor = s.sensor := by unfold pressBody; split <;> rfl
@[simp] theorem pressBody_inputs (s : State) : (pressBody s).inputs = s.inputs := by unfold pressBody; split <;> rfl
@[simp] theorem pressBody_trace (s : State) : (pressBody s).trace = s.trace := by unfold pressBody; split <;> rfl
@[simp] theorem pressBody_answer (s : State) : (pressBody s).answer = s.answer := by unfold pressBody; split <;> rfl
@[simp] theorem pressBody_draws (s : State) : (pressBody s).draws = s.draws + 1 := by unfold pressBody; split <;> rfl

end Sys2Proof.Machine
end

