-- ==== Sys2Proof/Laws/Compensation.lean ====
section
/-! SUPPORT. The compensation operations: what each leaves of `OUT.rng`, and the pressure operation as one record update. -/

namespace Sys2Proof.Machine

/-! ### `OUT.rng`, bit by bit (R35) -/

/-- The bit written reads back; the others are as before. -/
theorem getLsbD_setRng (i j : Fin 4) (b : Bool) (rng : BitVec 4) :
    (setRng i b rng).getLsbD j.val = if i = j then b else rng.getLsbD j.val := by
  revert i j b rng; decide

/-- The two pressure bits, written one after the other, in one mask. -/
theorem setRng_press (b : Bool) (rng : BitVec 4) :
    setRng 1 b (setRng 3 false rng) = (rng &&& 0b0101#4) ||| (if b then 0b0010#4 else 0#4) := by
  revert b rng; decide

/-- Both pressure bits set, for a zero divisor (R172). -/
theorem setRng_divZero (rng : BitVec 4) :
    setRng 1 true (setRng 3 true rng) = (rng &&& 0b0101#4) ||| 0b1010#4 := by
  revert rng; decide

/-- The outcome of a cycle looks at the three band flags (R222). -/
theorem cycleOutcome_eq (rng : BitVec 4) :
    cycleOutcome rng = if rng &&& 0b0111#4 = 0#4 then .ok else .rangeError := by
  revert rng; decide

/-! ### The pressure operation -/

/-- `OUT.press` after the pressure operation, by its result (R168, R172). -/
def pressValue (k : Nat) : Option Int → BitVec 32
  | none => Config.freePress k
  | some p => store 32 p

/-- `OUT.rng` after the pressure operation, by its result (R168, R172). -/
def pressRng (rng : BitVec 4) : Option Int → BitVec 4
  | none => setRng 1 true (setRng 3 true rng)
  | some p => setRng 1 (pressOutOfBand p) (setRng 3 false rng)

/-- The pressure operation as one record update. -/
theorem pressBody_eq (s : State) :
    pressBody s = { s with
      out := { s.out with press := pressValue s.draws (pressResult s), rng := pressRng s.out.rng (pressResult s) }
      draws := s.draws + 1 } := by
  unfold pressBody pressValue pressRng
  cases pressResult s <;> rfl

/-- `OUT.rng[3]` is never set without `OUT.rng[1]` by the pressure operation (R35). -/
theorem pressRng_divisor (rng : BitVec 4) (r : Option Int) (h : (pressRng rng r).getLsbD 3 = true) :
    (pressRng rng r).getLsbD 1 = true := by
  cases r with
  | none => revert rng; decide
  | some p =>
    revert h
    simp only [pressRng]
    generalize pressOutOfBand p = b
    revert b rng; decide

/-- The pressure operation leaves bits 0 and 2 of `OUT.rng` alone. -/
theorem pressRng_others (rng : BitVec 4) (r : Option Int) :
    (pressRng rng r).getLsbD 0 = rng.getLsbD 0 ∧ (pressRng rng r).getLsbD 2 = rng.getLsbD 2 := by
  cases r with
  | none => revert rng; decide
  | some p =>
    simp only [pressRng]
    generalize pressOutOfBand p = b
    revert b rng; decide

end Sys2Proof.Machine
end

