-- ==== Sys2Proof/Laws/Memory.lean ====
section
/-! SUPPORT. The sensor register space: what a read finds after a change, and that every operation keeps the canonical form. -/

namespace Sys2Proof.Machine

theorem Memory.get?_set (m : Memory) (a : Nat) (v : Byte) (k : Nat) :
    (m.set a v).get? k = if a = k then some v else m.get? k := by
  induction m with
  | nil => rfl
  | cons c m ih =>
    obtain ⟨x, b⟩ := c
    unfold Memory.set
    split
    · rfl
    · split
      · next h => subst h; simp only [Memory.get?]; split <;> rfl
      · next h => simp only [Memory.get?, ih]; split
                  · next e => subst e; rw [if_neg h]
                  · rfl

theorem Memory.get?_keep (m : Memory) (p : Nat → Bool) (k : Nat) :
    (m.keep p).get? k = if p k then m.get? k else none := by
  induction m with
  | nil => simp [Memory.keep, Memory.get?]
  | cons c m ih =>
    obtain ⟨x, b⟩ := c
    simp only [Memory.keep] at ih
    by_cases hx : p x = true
    · simp only [Memory.keep, List.filter, hx, Memory.get?, ih]
      by_cases e : x = k
      · subst e; simp [hx]
      · simp [e]
    · have hx' : p x = false := by simpa using hx
      simp only [Memory.keep, List.filter, hx', Memory.get?, ih]
      by_cases e : x = k
      · subst e; simp [hx']
      · simp [e]

theorem Memory.risingFrom_mono (m : Memory) (lo lo' : Nat) (h : lo' ≤ lo) (hr : Memory.risingFrom lo m = true) :
    Memory.risingFrom lo' m = true := by
  cases m with
  | nil => rfl
  | cons c m =>
    obtain ⟨x, b⟩ := c
    simp only [Memory.risingFrom, Bool.and_eq_true, decide_eq_true_eq] at hr ⊢
    exact ⟨⟨by omega, hr.1.2⟩, hr.2⟩

theorem Memory.risingFrom_keep (m : Memory) (p : Nat → Bool) (lo : Nat) (h : Memory.risingFrom lo m = true) :
    Memory.risingFrom lo (m.keep p) = true := by
  induction m generalizing lo with
  | nil => rfl
  | cons c m ih =>
    obtain ⟨x, b⟩ := c
    simp only [Memory.risingFrom, Bool.and_eq_true, decide_eq_true_eq] at h
    have ihx := ih (x + 1) h.2
    simp only [Memory.keep] at ihx ⊢
    by_cases hx : p x = true
    · simp only [List.filter, hx, Memory.risingFrom, Bool.and_eq_true, decide_eq_true_eq]
      exact ⟨h.1, ihx⟩
    · have hx' : p x = false := by simpa using hx
      simp only [List.filter, hx']
      exact Memory.risingFrom_mono _ _ _ (by omega) ihx

theorem Memory.risingFrom_set (m : Memory) (a : Nat) (v : Byte) (lo : Nat) (hlo : lo ≤ a) (ha : a < 256)
    (h : Memory.risingFrom lo m = true) : Memory.risingFrom lo (m.set a v) = true := by
  induction m generalizing lo with
  | nil => simp [Memory.set, Memory.risingFrom, hlo, ha]
  | cons c m ih =>
    obtain ⟨x, b⟩ := c
    simp only [Memory.risingFrom, Bool.and_eq_true, decide_eq_true_eq] at h
    unfold Memory.set
    split
    · simp only [Memory.risingFrom, Bool.and_eq_true, decide_eq_true_eq]
      exact ⟨⟨hlo, ha⟩, ⟨by omega, h.1.2⟩, h.2⟩
    · split
      · next e =>
        subst e
        simp only [Memory.risingFrom, Bool.and_eq_true, decide_eq_true_eq]
        exact ⟨⟨hlo, ha⟩, h.2⟩
      · simp only [Memory.risingFrom, Bool.and_eq_true, decide_eq_true_eq]
        exact ⟨h.1, ih (x + 1) (by omega) h.2⟩

theorem Memory.wf_keep (m : Memory) (p : Nat → Bool) (h : m.wf = true) : (m.keep p).wf = true :=
  Memory.risingFrom_keep m p 0 h

theorem Memory.wf_set (m : Memory) (a : Nat) (v : Byte) (ha : a < 256) (h : m.wf = true) : (m.set a v).wf = true :=
  Memory.risingFrom_set m a v 0 (Nat.zero_le _) ha h

theorem Memory.wf_afterRead (m : Memory) (a n : Nat) (h : m.wf = true) : (m.afterRead a n).wf = true :=
  Memory.wf_keep _ _ h

theorem Memory.wf_afterWriteAttempt (m : Memory) (a : Nat) (h : m.wf = true) : (m.afterWriteAttempt a).wf = true := by
  unfold Memory.afterWriteAttempt
  split
  · exact Memory.wf_keep _ _ h
  · split <;> exact Memory.wf_keep _ _ h

theorem Memory.wf_afterWrite (m : Memory) (a : Nat) (v : Byte) (ha : a < 256) (h : m.wf = true) :
    (m.afterWrite a v).wf = true := by
  unfold Memory.afterWrite
  split
  · exact Memory.wf_afterWriteAttempt _ _ h
  · exact Memory.wf_set _ _ _ ha (Memory.wf_afterWriteAttempt _ _ h)

/-- The memory after reset has the canonical form. -/
theorem Memory.wf_reset : Memory.wf State.reset.sensor = true := rfl

end Sys2Proof.Machine
end

