-- ==== Sys2Proof/Laws/Ops.lean ====
section
/-! SUPPORT. What each shared operation can do, said once: the cases of an acceptance, of a micro-step with a transaction, of a
wait, and the length of a burst. -/

namespace Sys2Proof.Machine

theorem State.busy_eq_false (s : State) : s.busy = false ↔ s.seq.state = .idle := by simp [State.busy]

theorem State.busy_eq_true (s : State) : s.busy = true ↔ s.seq.state ≠ .idle := by simp [State.busy]

/-- An operation other than `NOP` is rejected `Busy`, rejected `NotReady`, or accepted (R242). -/
theorem acceptOr_cases (ready : State → Bool) (body : State → State) (s : State) :
    (s.seq.state ≠ .idle ∧ acceptOr ready body s = reject .busy s) ∨
      (s.seq.state = .idle ∧ ready s = false ∧ acceptOr ready body s = reject .notReady s) ∨
      (s.seq.state = .idle ∧ ready s = true ∧ acceptOr ready body s = body (accept s)) := by
  unfold acceptOr
  by_cases hb : s.busy = true
  · exact .inl ⟨(State.busy_eq_true s).1 hb, by simp [hb]⟩
  · have hb' : s.busy = false := by simpa using hb
    have hi := (State.busy_eq_false s).1 hb'
    cases hr : ready s
    · exact .inr (.inl ⟨hi, rfl, by simp [hb']⟩)
    · exact .inr (.inr ⟨hi, rfl, by simp [hb']⟩)

theorem acceptOr_busy (ready : State → Bool) (body : State → State) (s : State) (h : s.seq.state ≠ .idle) :
    acceptOr ready body s = reject .busy s := by
  simp [acceptOr, (State.busy_eq_true s).2 h]

theorem acceptOr_notReady (ready : State → Bool) (body : State → State) (s : State) (h : s.seq.state = .idle)
    (hr : ready s = false) : acceptOr ready body s = reject .notReady s := by
  simp [acceptOr, (State.busy_eq_false s).2 h, hr]

theorem acceptOr_accepted (ready : State → Bool) (body : State → State) (s : State) (h : s.seq.state = .idle)
    (hr : ready s = true) : acceptOr ready body s = body (accept s) := by
  simp [acceptOr, (State.busy_eq_false s).2 h, hr]

/-- The end of an operation in `Idle` leaves the sequencer alone (R268). -/
theorem endOperation_idle (e : ErrCode) (s : State) (h : s.seq.state = .idle) :
    endOperation e s = { s with err := e, done := true } := by
  simp [endOperation, (State.busy_eq_false s).2 h]

/-- The end of a sequence: `Idle`, step 0 (R268). -/
theorem endOperation_running (e : ErrCode) (s : State) (h : s.seq.state ≠ .idle) :
    endOperation e s = { s with err := e, done := true, seq := { s.seq with state := .idle, step := 0 } } := by
  simp [endOperation, (State.busy_eq_true s).2 h]

/-- A failed read ends the sequence with `CommunicationError` (R203). -/
theorem readStep_fails (s : State) (addr : Byte) (n : Nat) (k : List Byte → State → State) :
    readStep s true addr n k = endOperation .communicationError (afterBusRead s true addr n) := rfl

/-- A successful read hands its bytes on (R62). -/
theorem readStep_ok (s : State) (addr : Byte) (n : Nat) (k : List Byte → State → State) :
    readStep s false addr n k = k (burst s addr n) (afterBusRead s false addr n) := rfl

/-- A failed write ends the sequence with `CommunicationError` (R203). -/
theorem writeStep_fails (s : State) (addr b : Byte) (k : State → State) :
    writeStep s true addr b k = endOperation .communicationError (afterBusWrite s true addr b) := rfl

/-- A successful write goes on (R63). -/
theorem writeStep_ok (s : State) (addr b : Byte) (k : State → State) :
    writeStep s false addr b k = k (afterBusWrite s false addr b) := rfl

/-- A burst has the length asked for (R62). -/
@[simp] theorem length_burst (s : State) (addr : Byte) (n : Nat) : (burst s addr n).length = n := by simp [burst]

/-- Byte `i` of a burst is register `addr + i` (R64). -/
theorem getD_burst (s : State) (addr : Byte) (n i : Nat) (d : Byte) (h : i < n) :
    (burst s addr n).getD i d = sensorByte s (addr.toNat + i) := by
  simp [burst, List.getD, h]

/-- A byte of a loaded buffer (R24). -/
theorem getElem_loadBytes {n : Nat} (buf : Vector Byte n) (start : Nat) (bs : List Byte) (i : Nat) (h : i < n) :
    (loadBytes buf start bs)[i] = if start ≤ i then bs.getD (i - start) buf[i] else buf[i] := by
  simp [loadBytes]

/-- A wait before its bound does nothing (R218). -/
theorem waitStep_early (bound : Nat) (n : BitVec 4) (s : State) (h : delayElapsed bound s = false) :
    waitStep bound n s = s := by simp [waitStep, h]

/-- A wait whose bound has passed goes on and stops the timer (R218). -/
theorem waitStep_elapsed (bound : Nat) (n : BitVec 4) (s : State) (h : delayElapsed bound s = true) :
    waitStep bound n s = { goto s.seq.state n s with timer := none } := by simp [waitStep, h]

/-- A step with a scheduled event runs it. -/
theorem step_input (s : State) (i : Input) (rest : List Input) (h : s.inputs = i :: rest) :
    step s = runInput i { s with inputs := rest } := by simp [step, h]

/-- A step with nothing scheduled is the block's own. -/
theorem step_empty (s : State) (h : s.inputs = []) : step s = autonomous s := by simp [step, h]

end Sys2Proof.Machine
end

