-- ==== Sys2Proof/Laws/PerInstr.lean ====
section
/-! SUPPORT. Facts about the operations as syntax, one lemma per constructor: the group in a command byte's high nibble;
and that the lists the decoders search leave nothing out. -/

namespace Sys2Proof.Laws

/-- The group of an operation's unit (R91: 0 sequencer and housekeeping, 1 decoders, 2 compensation, 3 heater). -/
def unitGroup : Instr → BitVec 4
  | .nop => 0
  | .init => 0
  | .measure => 0
  | .clrerr => 0
  | .caldec => 1
  | .flddec => 1
  | .compt => 2
  | .compp => 2
  | .comph => 2
  | .compg => 2
  | .heatr => 3
  | .heatd => 3

/-- The command byte's high nibble is the group of the operation's unit (R91). -/
def CommandGroup.Statement (i : Instr) : Prop := groupOf (encode i) = unitGroup i

theorem CommandGroup.nop : CommandGroup.Statement .nop := by unfold CommandGroup.Statement; decide
theorem CommandGroup.init : CommandGroup.Statement .init := by unfold CommandGroup.Statement; decide
theorem CommandGroup.measure : CommandGroup.Statement .measure := by unfold CommandGroup.Statement; decide
theorem CommandGroup.clrerr : CommandGroup.Statement .clrerr := by unfold CommandGroup.Statement; decide
theorem CommandGroup.caldec : CommandGroup.Statement .caldec := by unfold CommandGroup.Statement; decide
theorem CommandGroup.flddec : CommandGroup.Statement .flddec := by unfold CommandGroup.Statement; decide
theorem CommandGroup.compt : CommandGroup.Statement .compt := by unfold CommandGroup.Statement; decide
theorem CommandGroup.compp : CommandGroup.Statement .compp := by unfold CommandGroup.Statement; decide
theorem CommandGroup.comph : CommandGroup.Statement .comph := by unfold CommandGroup.Statement; decide
theorem CommandGroup.compg : CommandGroup.Statement .compg := by unfold CommandGroup.Statement; decide
theorem CommandGroup.heatr : CommandGroup.Statement .heatr := by unfold CommandGroup.Statement; decide
theorem CommandGroup.heatd : CommandGroup.Statement .heatd := by unfold CommandGroup.Statement; decide

end Sys2Proof.Laws

namespace Sys2Proof

/-- The list of operations leaves none out. -/
theorem Instr.mem_all (i : Instr) : i ∈ Instr.all := by cases i <;> decide

/-- The list of host registers leaves none out. -/
theorem HostReg.mem_all (r : HostReg) : r ∈ HostReg.all := by
  cases r <;> first
    | exact List.mem_append_left _ (by decide)
    | exact List.mem_append_right _ (by simp [HostReg.buffered])

end Sys2Proof
end

