-- ==== Sys2Proof/Laws/Step.lean ====
section
/-! SUPPORT. What one step can do, said once: by the event at the head of the schedule, by the operation, by the micro-step. -/

namespace Sys2Proof.Machine

/-- Commands are written to number 0 (R96). -/
@[simp] theorem hostRegNumber_cmd : Config.hostRegNumber .cmd = 0 := rfl

/-- One step: the scheduled event, or the block's own. -/
theorem step_cases {s t : State} (h : step s = .next t) :
    (∃ a rest, s.inputs = .host a :: rest ∧ hostAction a { s with inputs := rest } = .next t) ∨
    (∃ f rest, s.inputs = .turn f :: rest ∧ microStep f { s with inputs := rest } = .next t) ∨
    (∃ a v rest, s.inputs = .sensor a v :: rest ∧ t = { s with inputs := rest, sensor := s.sensor.set a.toNat v }) ∨
    (∃ ms rest, s.inputs = .time ms :: rest ∧ t = passTime ms { s with inputs := rest }) ∨
    (∃ rest, s.inputs = .reset :: rest ∧ t = resetBlock { s with inputs := rest }) ∨
    (∃ b, s.inputs = [] ∧ waitBound s = some b ∧ delayElapsed b s = false ∧
      t = passTime (1 + Config.freeWaitMs s.draws) s.nextDraw) ∨
    (∃ f, s.inputs = [] ∧ microStep f s = .next t) := by
  unfold step at h
  split at h
  · rename_i he
    unfold autonomous at h
    split at h
    · rename_i b hb
      split at h
      · exact .inr (.inr (.inr (.inr (.inr (.inr ⟨_, he, h⟩)))))
      · rename_i hd
        exact .inr (.inr (.inr (.inr (.inr (.inl ⟨b, he, hb, by simpa using hd, by injection h with h; exact h.symm⟩)))))
    · exact .inr (.inr (.inr (.inr (.inr (.inr ⟨_, he, h⟩)))))
  · rename_i i rest he
    cases i with
    | host a => exact .inl ⟨a, rest, he, h⟩
    | turn f => exact .inr (.inl ⟨f, rest, he, h⟩)
    | sensor a v => exact .inr (.inr (.inl ⟨a, v, rest, he, by injection h with h; exact h.symm⟩))
    | time ms => exact .inr (.inr (.inr (.inl ⟨ms, rest, he, by injection h with h; exact h.symm⟩)))
    | reset => exact .inr (.inr (.inr (.inr (.inl ⟨rest, he, by injection h with h; exact h.symm⟩))))

/-- A host action: an answered read, a register write, a command that is no operation, or an operation (R240). -/
theorem hostAction_cases {a : HostAction} {s t : State} (h : hostAction a s = .next t) :
    (∃ hr, a = .read hr ∧ t = answerRead hr s) ∨
    (∃ hr data, a = .write hr data ∧ hr ≠ 0 ∧ t = hostWrite hr data s) ∨
    (∃ data, a = .write 0 data ∧ decodeCommand data = .error .badCommand ∧ t = rejectCommand s) ∨
    (∃ data i, a = .write 0 data ∧ decodeCommand data = .ok i ∧ exec i s = .next t) := by
  cases a with
  | read hr => exact .inl ⟨hr, rfl, by injection h with h; exact h.symm⟩
  | write hr data =>
    simp only [hostAction] at h
    split at h
    · rename_i h0
      subst h0
      unfold commandWrite at h
      split at h
      · rename_i i hd
        exact .inr (.inr (.inr ⟨data, i, rfl, hd, h⟩))
      · rename_i e hd
        cases e
        exact .inr (.inr (.inl ⟨data, rfl, hd, by injection h with h; exact h.symm⟩))
    · rename_i h0
      exact .inr (.inl ⟨hr, data, rfl, h0, by injection h with h; exact h.symm⟩)

/-- A register write rejects, or, in `Idle`, gives one writable register a legal value (R241). -/
theorem hostWrite_cases (hr : BitVec 8) (data : Word) (s : State) :
    (∃ c, c ≠ .none ∧ hostWrite hr data s = reject c s) ∨
    (∃ r, decodeHostReg hr = some r ∧ writable r = true ∧ s.seq.state = .idle ∧ legalValue data r = true ∧
      hostWrite hr data s = writeReg data s r) := by
  unfold hostWrite
  split
  · rename_i r hr'
    split
    · rename_i hw
      unfold writeWritable
      split
      · exact .inl ⟨.busy, by decide, rfl⟩
      · rename_i hb
        split
        · rename_i hl
          exact .inr ⟨r, hr', hw, (State.busy_eq_false s).1 (by simpa using hb), hl, rfl⟩
        · exact .inl ⟨.badValue, by decide, rfl⟩
    · exact .inl ⟨.badRegister, by decide, rfl⟩
  · exact .inl ⟨.badRegister, by decide, rfl⟩

/-- What a register write can change: the configuration and the byte buffers, nothing else (R241). -/
theorem writeReg_frame (data : Word) (s : State) (r : HostReg) :
    writeReg data s r = { s with
      cfg := (writeReg data s r).cfg, calbuf := (writeReg data s r).calbuf, auxbuf := (writeReg data s r).auxbuf
      fldbuf := (writeReg data s r).fldbuf } := by
  cases r <;> rfl

/-- What an operation does once accepted. -/
def acceptedBody : Instr → State → State
  | .nop => id
  | .init => initBody
  | .measure => measureBody
  | .clrerr => clearOutcome
  | .caldec => caldecBody
  | .flddec => flddecBody
  | .compt => comptBody
  | .compp => comppBody
  | .comph => comphBody
  | .compg => compgBody
  | .heatr => heatrBody
  | .heatd => heatdBody

/-- Every operation but `NOP` is one acceptance (R242). -/
theorem exec_eq_acceptOr (i : Instr) (s : State) (h : i ≠ .nop) :
    exec i s = .next (acceptOr (readyFor i) (acceptedBody i) s) := by
  cases i <;> first | rfl | exact absurd rfl h

/-- An operation has no effect (`NOP`), is rejected, or is accepted in `Idle` with the valid flags it needs (R242). -/
theorem exec_cases {i : Instr} {s t : State} (h : exec i s = .next t) :
    (i = .nop ∧ t = s) ∨
    (i ≠ .nop ∧ s.seq.state ≠ .idle ∧ t = reject .busy s) ∨
    (i ≠ .nop ∧ s.seq.state = .idle ∧ readyFor i s = false ∧ t = reject .notReady s) ∨
    (i ≠ .nop ∧ s.seq.state = .idle ∧ readyFor i s = true ∧ t = acceptedBody i (accept s)) := by
  by_cases hn : i = .nop
  · subst hn
    exact .inl ⟨rfl, by injection h with h; exact h.symm⟩
  · rw [exec_eq_acceptOr i s hn] at h
    injection h with h
    subst h
    rcases acceptOr_cases (readyFor i) (acceptedBody i) s with ⟨a, b⟩ | ⟨a, b, c⟩ | ⟨a, b, c⟩
    · exact .inr (.inl ⟨hn, a, b⟩)
    · exact .inr (.inr (.inl ⟨hn, a, b, c⟩))
    · exact .inr (.inr (.inr ⟨hn, a, b, c⟩))

/-- A read micro-step fails, or hands its bytes on (R203). -/
theorem readStep_cases (s : State) (f : Bool) (addr : Byte) (n : Nat) (k : List Byte → State → State) :
    readStep s f addr n k = endOperation .communicationError (afterBusRead s true addr n) ∨
      readStep s f addr n k = k (burst s addr n) (afterBusRead s false addr n) := by
  cases f
  · exact .inr rfl
  · exact .inl rfl

/-- A write micro-step fails, or goes on (R203). -/
theorem writeStep_cases (s : State) (f : Bool) (addr b : Byte) (k : State → State) :
    writeStep s f addr b k = endOperation .communicationError (afterBusWrite s true addr b) ∨
      writeStep s f addr b k = k (afterBusWrite s false addr b) := by
  cases f
  · exact .inr rfl
  · exact .inl rfl

/-- The micro-steps of `Init` (R205, R206). -/
theorem initStep_cases {f : Bool} {s t : State} (h : initStep f s = .next t) :
    (s.seq.step = 0 ∧ t = writeStep s f Config.addrReset Config.resetKey (goto .init 1)) ∨
    (s.seq.step = 1 ∧ t = readStep s f Config.addrReset 1 fun bs => initPolled (bs.headD 0)) ∨
    (s.seq.step = 2 ∧ t = waitStep Config.resetPollDelayMs 1 s) ∨
    (s.seq.step = 3 ∧ t = readStep s f Config.addrChipId 1 fun bs => initIdentified (bs.headD 0)) ∨
    (s.seq.step = 4 ∧ t = readStep s f Config.addrCal1 Config.lenCal1 fun bs t =>
      goto .init 5 { t with calbuf := loadBytes t.calbuf 0 bs }) ∨
    (s.seq.step = 5 ∧ t = readStep s f Config.addrCal2 Config.lenCal2 fun bs t =>
      goto .init 6 { t with calbuf := loadBytes t.calbuf Config.lenCal1 bs }) ∨
    (s.seq.step = 6 ∧ t = readStep s f Config.addrResHeatRange 1 fun bs t =>
      goto .init 7 { t with auxbuf := loadBytes t.auxbuf 0 bs }) ∨
    (s.seq.step = 7 ∧ t = readStep s f Config.addrResHeatVal 1 fun bs t =>
      goto .init 8 { t with auxbuf := loadBytes t.auxbuf 1 bs }) ∨
    (s.seq.step = 8 ∧ t = readStep s f Config.addrRangeSwErr 1 fun bs t =>
      goto .init 9 { t with auxbuf := loadBytes t.auxbuf 2 bs }) ∨
    (s.seq.step = 9 ∧ t = initFinish s) := by
  unfold initStep at h
  split at h <;> try cases h
  all_goals (rename_i hs; simp only [← BitVec.toNat_inj, hs])
  all_goals simp

/-- The micro-steps of `Configuring` (R208, R209). -/
theorem configuringStep_cases {f : Bool} {s t : State} (h : configuringStep f s = .next t) :
    (s.seq.step = 0 ∧ t = writeStep s f Config.addrCtrlHum (ctrlHumByte s.cfg) (goto .configuring 1)) ∨
    (s.seq.step = 1 ∧
      t = writeStep s f Config.addrCtrlMeas (ctrlMeasByte s.cfg Config.modeSleep) (goto .configuring 2)) ∨
    (s.seq.step = 2 ∧ t = writeStep s f Config.addrConfig (configByte s.cfg) (goto .configuring 3)) ∨
    (s.seq.step = 3 ∧ s.cfg.gasEn = true ∧
      t = writeStep s f Config.addrResHeat0 s.cfg.resHeat (goto .configuring 4)) ∨
    (s.seq.step = 3 ∧ s.cfg.gasEn = false ∧
      t = writeStep s f Config.addrCtrlGas1 ctrlGasOffByte (goto .triggered 0)) ∨
    (s.seq.step = 4 ∧ t = writeStep s f Config.addrGasWait0 s.cfg.gasWait (goto .configuring 5)) ∨
    (s.seq.step = 5 ∧ t = writeStep s f Config.addrCtrlGas1 ctrlGasOnByte (goto .triggered 0)) := by
  unfold configuringStep at h
  split at h <;> try cases h
  all_goals (rename_i hs; simp only [← BitVec.toNat_inj, hs])
  all_goals try simp
  split at h <;> cases h <;> simp_all

/-- One micro-step, by the sequencer's state (R202). -/
theorem microStep_cases {f : Bool} {s t : State} (h : microStep f s = .next t) :
    (s.seq.state = .idle ∧ t = s) ∨
    (s.seq.state = .init ∧ initStep f s = .next t) ∨
    (s.seq.state = .configuring ∧ configuringStep f s = .next t) ∨
    (s.seq.state = .triggered ∧ s.seq.step = 0 ∧
      t = writeStep s f Config.addrCtrlMeas (ctrlMeasByte s.cfg Config.modeForced) startPolling) ∨
    (s.seq.state = .polling ∧ s.seq.step = 0 ∧
      t = readStep s f Config.addrStatus 1 fun bs => polled (bs.headD 0)) ∨
    (s.seq.state = .polling ∧ s.seq.step = 1 ∧ t = waitStep Config.pollDelayMs 0 s) ∨
    (s.seq.state = .dataReady ∧ s.seq.step = 0 ∧
      t = readStep s f Config.addrField Config.lenField fun bs t =>
        goto .dataReady 1 { t with fldbuf := loadBytes t.fldbuf 0 bs }) ∨
    (s.seq.state = .dataReady ∧ s.seq.step = 1 ∧ t = cycleFinish s) ∨
    (s.seq.state = .timedOut ∧ s.seq.step = 0 ∧ t = endOperation .noNewData s) := by
  unfold microStep at h
  split at h <;> rename_i hst <;> simp only [hst]
  · injection h with h; simp [h.symm]
  · simp [h]
  · simp [h]
  all_goals simp only [triggeredStep, pollingStep, dataReadyStep, timedOutStep] at h
  all_goals (split at h <;> try cases h)
  all_goals (rename_i hs; simp [← BitVec.toNat_inj, hs])

end Sys2Proof.Machine
end

