-- ==== Sys2Proof/Tests/Slice0.lean ====
section
/-! SUPPORT. Tests: ill-formed terms, decoding of words written out from the spec, vectors of spec/95, and, for every statement
with hypotheses, a state that meets them. A comment names the spec's source of the expected result. -/

namespace Sys2Proof.Tests

-- One test at a time: in the package as one text each `decide +kernel` would otherwise hold a thread of its own.
set_option Elab.async false

open Sys2Proof Sys2Proof.Machine

/-! ### Well-formedness: each check refuses an ill-formed term -/

theorem test_wf_instr : Instr.wf .measure = true := by decide
theorem test_wf_write : BusOp.wf (.write 0x74 [0x24]) = true := by decide
theorem test_wf_write_two_bytes : BusOp.wf (.write 0x74 [0x24, 0x24]) = false := by decide
theorem test_wf_write_no_byte : BusOp.wf (.write 0x74 []) = false := by decide
theorem test_wf_write_key : BusOp.wf (.write 0xE0 [0xB7]) = false := by decide
theorem test_wf_write_hum_reserved : BusOp.wf (.write 0x72 [0x08]) = false := by decide
theorem test_wf_write_mode2 : BusOp.wf (.write 0x74 [0x26]) = false := by decide
theorem test_wf_write_mode3 : BusOp.wf (.write 0x74 [0x27]) = false := by decide
theorem test_wf_write_config_high : BusOp.wf (.write 0x75 [0x20]) = false := by decide
theorem test_wf_write_config_low : BusOp.wf (.write 0x75 [0x01]) = false := by decide
theorem test_wf_write_gas_reserved : BusOp.wf (.write 0x71 [0x30]) = false := by decide
theorem test_wf_write_address : BusOp.wf (.write 0xD0 [0x61]) = false := by decide
theorem test_wf_read : BusOp.wf (.read 0x1D 15) = true := by decide
theorem test_wf_read_status_length : BusOp.wf (.read 0x1D 2) = false := by decide
theorem test_wf_read_cal1_length : BusOp.wf (.read 0x89 24) = false := by decide
theorem test_wf_read_cal2_length : BusOp.wf (.read 0xE1 25) = false := by decide
theorem test_wf_read_address : BusOp.wf (.read 0x74 1) = false := by decide
theorem test_wf_reply_length : Transaction.wf ⟨.read 0x1D 1, .ok [0, 0]⟩ = false := by decide
theorem test_wf_reply_write : Transaction.wf ⟨.write 0x71 [0], .ok [0]⟩ = false := by decide
theorem test_wf_reply_error : Transaction.wf ⟨.read 0x89 25, .error⟩ = true := by decide
theorem test_wf_reset_polls :
    Config.resetPollMaxOk none = true ∧ Config.resetPollMaxOk (some 255) = true ∧
      Config.resetPollMaxOk (some 0) = false ∧ Config.resetPollMaxOk (some 256) = false := by decide
theorem test_wf_polls : Config.pollMaxOk Config.pollMax = true ∧ Config.pollMaxOk 0 = false ∧
    Config.pollMaxOk 256 = false := by decide
theorem test_wf_pair : Config.BytePair.ok ⟨2, 1⟩ = false := by decide
theorem test_wf_cal_layout : Config.calLayout.wf = true := by decide
theorem test_wf_cal_layout_shared : Config.CalLayout.wf { Config.calLayout with parP6 := 15 } = false := by decide
theorem test_wf_cal_layout_order : Config.CalLayout.wf { Config.calLayout with parT1 := ⟨34, 33⟩ } = false := by decide
theorem test_wf_field_layout : Config.fieldLayout.wf = true := by decide
theorem test_wf_field_layout_shared : Config.FieldLayout.wf { Config.fieldLayout with humLo := 8 } = false := by decide
theorem test_wf_command_codes : Config.commandCodesOk Config.commandCode = true ∧
    Config.commandCodesOk (fun i => if i = .heatd then 0x30 else Config.commandCode i) = false := by decide
theorem test_wf_host_numbers : Config.hostRegNumbersOk Config.hostRegNumber = true ∧
    Config.hostRegNumbersOk (fun r => if r = .outRng then 0x80 else Config.hostRegNumber r) = false := by decide +kernel
theorem test_wf_field_layout_byte_end :
    Config.FieldLayout.wf { Config.fieldLayout with pressLoBit := 5 } = false ∧
      Config.FieldLayout.wf { Config.fieldLayout with gasIndexBit := 4 } = false ∧
      Config.FieldLayout.wf { Config.fieldLayout with tempLoBit := 7 } = false ∧
      Config.FieldLayout.wf { Config.fieldLayout with rangeBit := 1 } = false := by decide
theorem test_wf_field_layout_bits :
    Config.FieldLayout.wf { Config.fieldLayout with heatStabBit := 5 } = false := by decide
theorem test_wf_host_register : hostRegNumberOk 0x3F = true ∧ hostRegNumberOk 0x3E = false := by decide

/-! ### Decoding: every operation's word, bit by bit (R92) -/

theorem test_decode_nop : decodeTableWord 8 0b00000000 = some .nop := by decide
theorem test_decode_init : decodeTableWord 8 0b00000001 = some .init := by decide
theorem test_decode_measure : decodeTableWord 8 0b00000010 = some .measure := by decide
theorem test_decode_clrerr : decodeTableWord 8 0b00000011 = some .clrerr := by decide
theorem test_decode_caldec : decodeTableWord 8 0b00010000 = some .caldec := by decide
theorem test_decode_flddec : decodeTableWord 8 0b00010001 = some .flddec := by decide
theorem test_decode_compt : decodeTableWord 8 0b00100000 = some .compt := by decide
theorem test_decode_compp : decodeTableWord 8 0b00100001 = some .compp := by decide
theorem test_decode_comph : decodeTableWord 8 0b00100010 = some .comph := by decide
theorem test_decode_compg : decodeTableWord 8 0b00100011 = some .compg := by decide
theorem test_decode_heatr : decodeTableWord 8 0b00110000 = some .heatr := by decide
theorem test_decode_heatd : decodeTableWord 8 0b00110001 = some .heatd := by decide

/-- R93: a reserved byte next to each group; R242: a word above 0xFF whose low byte is an operation's. -/
theorem test_decode_reserved :
    [0x04#32, 0x0F, 0x12, 0x1F, 0x24, 0x2F, 0x32, 0x40, 0xFF, 0x102, 0x80000002].all
      (fun w => decodeCommand w = .error .badCommand) = true := by decide +kernel

/-- R94: `W 00 00000002` and `R 51`. -/
theorem test_decode_host_word :
    decodeHostWord (0b1#1 ++ 0x00#8 ++ 0x00000002#32) = some (.write 0 2) ∧
      decodeHostWord (0b0#1 ++ 0x51#8 ++ 0#32) = some (.read 0x51) ∧
      decodeHostWord (0b0#1 ++ 0x51#8 ++ 1#32) = none := by decide

/-- R96: the last byte of each buffer and a register of each group. -/
theorem test_decode_host_registers :
    decodeHostReg 0xA8 = some (.calbuf 40) ∧ decodeHostReg 0xAB = some (.auxbuf 2) ∧
      decodeHostReg 0xBE = some (.fldbuf 14) ∧ decodeHostReg 0x2C = some .parP10 ∧
      decodeHostReg 0x57 = some .outRng := by decide

/-! ### States the tests start from -/

/-- V-CAL-1: `CALBUF`. -/
def calImage : Vector Byte 41 := #v[
  0xA0, 0x65, 0x67, 0x03, 0xA4, 0x7D, 0x8E, 0x43, 0xD6, 0x58, 0xAA, 0x78, 0x1B, 0x66, 0xFF, 0x18, 0x1E, 0xB1, 0xB2, 0xE3,
  0xFA, 0xC8, 0xF3, 0x1E, 0xB8,
  0x3F, 0x67, 0x2F, 0x00, 0x2D, 0x14, 0x78, 0x9C, 0xB9, 0x65, 0xAF, 0xE8, 0xE2, 0x12, 0xC7, 0xC8]

/-- V-CAL-1: `AUXBUF`. -/
def auxImage : Vector Byte 3 := #v[0xD6, 0x2E, 0xF3]

/-- V-F-1. -/
def fieldImage : Vector Byte 15 := #v[
  0x80, 0x07, 0x55, 0x73, 0x00, 0x7A, 0x12, 0x00, 0x55, 0xF0, 0x80, 0x00, 0x00, 0x80, 0x38]

/-- The coefficients of V-CAL-1. -/
def cal1 : CalRegs where
  parT1 := 26041
  parT2 := 26469
  parT3 := 3
  parP1 := 36477
  parP2 := BitVec.ofInt 16 (-10685)
  parP3 := 88
  parP4 := 7032
  parP5 := BitVec.ofInt 16 (-154)
  parP6 := 30
  parP7 := 24
  parP8 := BitVec.ofInt 16 (-1309)
  parP9 := BitVec.ofInt 16 (-3128)
  parP10 := 30
  parH1 := 759
  parH2 := 1014
  parH3 := 0
  parH4 := 45
  parH5 := 20
  parH6 := 120
  parH7 := BitVec.ofInt 8 (-100)
  parG1 := BitVec.ofInt 8 (-30)
  parG2 := BitVec.ofInt 16 (-5969)
  parG3 := 18
  resHeatRange := 1
  resHeatVal := 46
  rangeSwError := BitVec.ofInt 4 (-1)

/-- The raw sample of V-F-1. -/
def raw1 : RawRegs where
  press := 350000
  temp := 500000
  hum := 22000
  gas := 512
  range := 8
  newData := true
  gasValid := true
  heatStab := true
  gasIndex := 0
  measIndex := 7

/-- `Idle`, with valid coefficients, raw sample and `T_FINE`, and the configuration of the heater vector V-H-1. -/
def ready : State :=
  { State.reset with
    cal := cal1, calValid := true, raw := raw1, rawValid := true, tFine := 134664, tfineValid := true
    calbuf := calImage, auxbuf := auxImage, fldbuf := fieldImage
    cfg := { CfgRegs.reset with
      osT := 4, osP := 3, osH := 2, filter := 2, ambTemp := 25, gasEn := true, heatTemp := 320, heatDur := 150 } }

/-- A sequence under way at the control position given. -/
def running (st : SeqState) (n : BitVec 4) (polls : BitVec 8) (timer : Option Nat) (inputs : List Input) : State :=
  { ready with
    calValid := st ≠ .init, rawValid := false, tfineValid := false, seq := ⟨st, n, polls⟩, timer := timer
    inputs := inputs }

/-- What holds of the next state, if there is one. -/
def next (o : Host.Outcome State Fault Refusal) (p : State → Bool) : Bool :=
  match o with
  | .next t => p t
  | .fault _ => false
  | .refused _ => false

/-! ### Vectors of spec/95, one step each -/

/-- V-CAL-1. -/
theorem test_caldec : calDecode Config.calLayout calImage auxImage = cal1 := by decide +kernel
/-- V-CAL-3: signed fields sign-extend, unsigned do not. -/
theorem test_caldec_ones :
    (fun r : CalRegs => decide (uval r.parT1 = 65535 ∧ sval r.parT2 = -1 ∧ uval r.parP10 = 255 ∧ uval r.parH2 = 4095 ∧
      uval r.resHeatRange = 3 ∧ sval r.rangeSwError = -1))
      (calDecode Config.calLayout (Vector.replicate 41 0xFF) (Vector.replicate 3 0xFF)) = true := by decide +kernel
/-- V-F-1. -/
theorem test_flddec : fieldDecode Config.fieldLayout fieldImage = raw1 := by decide +kernel
/-- V-F-4: ignored bits only. -/
theorem test_flddec_ignored : fieldDecode Config.fieldLayout
    #v[0x70, 0, 0, 0, 0x0F, 0, 0, 0x0F, 0, 0, 0xFF, 0xFF, 0xFF, 0, 0] = RawRegs.reset := by decide +kernel
/-- V-T-1. -/
theorem test_compt : next (exec .compt ready) (fun t => t.tFine.toInt = 134664 && t.out.temp.toInt = 2630 && t.err = .ok) =
    true := by decide +kernel
/-- V-T-5: just below the band, not clamped. -/
theorem test_compt_low : next (exec .compt { ready with raw := { raw1 with temp := 289847 } })
    (fun t => t.out.temp.toInt = -4001 && t.err = .rangeError && t.out.rng = 1) = true := by decide +kernel
/-- V-P-1: above the threshold, divide first. -/
theorem test_compp : next (exec .compp ready) (fun t => t.out.press.toInt = 100523 && t.err = .ok) = true := by
  decide +kernel
/-- V-P-3: below the threshold, double first. -/
theorem test_compp_below : next (exec .compp { ready with raw := { raw1 with press := 700000 } })
    (fun t => t.out.press.toInt = 40539) = true := by decide +kernel
/-- V-HU-1. -/
theorem test_comph : next (exec .comph ready) (fun t => t.out.hum.toInt = 51761 && t.err = .ok) = true := by
  decide +kernel
/-- V-HU-3: below the band, not clamped. -/
theorem test_comph_low : next (exec .comph { ready with raw := { raw1 with hum := 12143 } })
    (fun t => t.out.hum.toInt = -5 && t.err = .rangeError && t.out.rng = 4) = true := by decide +kernel
/-- R180's example. -/
theorem test_compg : next (exec .compg ready) (fun t => t.out.gas.toNat = 31281 && t.out.status = 0xB0 && t.out.measIndex = 7) =
    true := by decide +kernel
/-- V-H-1. -/
theorem test_heatr : next (exec .heatr ready) (fun t => t.cfg.resHeat = 0x75) = true := by decide +kernel
/-- V-H-13: a negative code keeps its low eight bits. -/
theorem test_heatr_negative : heatRes Config.heatPoly 0 (-128) ⟨-128, -32768, -128, 3, 127⟩ = 0xEB := by decide +kernel
/-- The duration table: 150 ms. -/
theorem test_heatd : next (exec .heatd ready) (fun t => t.cfg.gasWait = 0x65) = true := by decide +kernel
/-- The duration table: saturation at 4032 ms. -/
theorem test_heatd_saturates : heatDur 4031 = 0xFE ∧ heatDur 4032 = 0xFF := by decide
/-- R204. -/
theorem test_init : next (exec .init ready) (fun t => stat t = 0x0009 && !t.calValid && t.err = .ok) = true := by
  decide +kernel
/-- R207: accepted, and the heater codes computed (V-H-1, the duration table). -/
theorem test_measure : next (exec .measure ready)
    (fun t => stat t = 0x004A && t.cfg.resHeat = 0x75 && t.cfg.gasWait = 0x65) = true := by decide +kernel
/-- R207: without coefficients rejected `NotReady`. -/
theorem test_measure_notReady : next (exec .measure State.reset) (fun t => t.rejc = .notReady && t.seq.state = .idle) = true := by
  decide +kernel
/-- R245's example: `STAT` 0x0050 becomes 0x0040. -/
theorem test_clrerr : next (exec .clrerr { State.reset with calValid := true, done := true, err := .noNewData })
    (fun t => t.err = .ok && stat t = 0x0040) = true := by decide +kernel
/-- R244's example: `NOP` during `Polling` leaves `STAT` unchanged. -/
theorem test_nop : next (exec .nop (running .polling 0 1 none [])) (fun t => stat t = stat (running .polling 0 1 none [])) =
    true := by decide +kernel

/-- R101, R210: the trigger byte of the configuration of S1 (`os_t` 4, `os_p` 3, forced). -/
theorem test_trigger : next (microStep false (running .triggered 0 0 none []))
    (fun t => t.trace.head? = some ⟨.write 0x74 [0x8D], .ok []⟩ && t.seq = ⟨.polling, 0, 0⟩) = true := by decide +kernel
/-- S3: a tenth poll that is not ready. -/
theorem test_last_poll : next (microStep false { running .polling 0 9 none [] with sensor := [(0x1D, 0x7F)] })
    (fun t => t.seq = ⟨.timedOut, 0, 10⟩) = true := by decide +kernel
/-- R218: nine milliseconds are too few. -/
theorem test_wait_early : next (microStep false (running .polling 1 1 (some 9) [])) (fun t => t.seq.step = 1) = true := by
  decide +kernel
/-- The host's fetch: the word placed is the operation run next. -/
theorem test_withFetchWord : next (step (ready.withFetchWord 8 0x11)) (fun t => t.raw = raw1 && t.rawValid && t.inputs.isEmpty) =
    true := by decide +kernel

/-! ### A state that meets each statement's hypotheses

`test_meets_<Name>` is for the statement of that name in Certificates/Slice0/Obligations.lean. -/

theorem test_meets_HostEncodingsRoundTrip :
    decodeHostReg 0xBE = some (.fldbuf 14) ∧ decodeHostWord (0b1#1 ++ 0x08#8 ++ 5#32) = some (.write 0x08 5) := by decide

/-- Both ends of every range of R97, and of every range of read-only registers, meet the conclusion's case. -/
theorem test_meets_ReservedAndReadOnlyRegisters :
    [0x05#8, 0x07, 0x12, 0x1F, 0x3A, 0x3E, 0x48, 0x4F, 0x58, 0x7F, 0xAC, 0xAF, 0xBF, 0xFF].all
        (fun hr => next (runInput (.host (.write hr 0)) ready) (fun t => t.rejc = .badRegister) &&
          next (runInput (.host (.read hr)) ready) (fun t => t.answer = some ⟨hr, 0⟩ && !t.rej)) = true ∧
      [0x01#8, 0x04, 0x10, 0x11, 0x20, 0x39, 0x3F, 0x47, 0x50, 0x57].all
        (fun hr => next (runInput (.host (.write hr 0)) ready) (fun t => t.rejc = .badRegister)) = true := by
  decide +kernel

/-- Two images that differ in ignored bits only. -/
theorem test_meets_CalDecodeBijectiveOnUsedBits :
    calDecode Config.calLayout calImage auxImage =
      calDecode Config.calLayout (calImage.set 40 0) #v[0x10, 0x2E, 0xF0] := by decide +kernel

theorem test_meets_FieldDecodeBijectiveOnUsedBits :
    fieldDecode Config.fieldLayout fieldImage = fieldDecode Config.fieldLayout ((fieldImage.set 0 0xF0).set 10 0xFF) := by
  decide +kernel

theorem test_meets_StepRunsTheDecodedCommand :
    { ready with inputs := [.host (.write 0 0x20)] }.inputs = .host (.write 0 0x20) :: [] ∧
      decodeCommand 0x20 = .ok .compt ∧ Instr.wf .compt = true := by decide

/-- Each boundary of the reserved words, in `Idle` and while a sequence runs. -/
theorem test_meets_ReservedCommandsRejected :
    [0x04#32, 0x0F, 0x12, 0x1F, 0x24, 0x2F, 0x32, 0xFF, 0x100, 0xFFFFFFFF].all (fun w =>
      next (step { ready with inputs := [.host (.write 0 w)] }) (fun t => t.rejc = .badCommand) &&
        next (step (running .polling 0 1 none [.host (.write 0 w)])) (fun t => t.rejc = .busy)) = true := by
  decide +kernel

/-- A host read, a change of a sensor register, and time for a timer that runs. -/
theorem test_meets_ReadsAndEventsLeaveTheBlock :
    { ready with inputs := [.host (.read 0x50)] }.inputs = .host (.read 0x50) :: [] ∧
      { ready with inputs := [.sensor 0x1D 0x80] }.inputs = .sensor 0x1D 0x80 :: [] ∧
      (running .polling 1 1 (some 9) [.time 1]).inputs = .time 1 :: [] := ⟨rfl, rfl, rfl⟩

/-- Both ends of the writable ranges, in `Idle` with a legal and an illegal value, and while a sequence runs. -/
theorem test_meets_RegisterWritesCheckedInOrder :
    [(0x08#8, 5#32, 6#32), (0x0A, 5, 6), (0x0B, 7, 8), (0x0C, 127, 128), (0x0C, 0xFFFFFF80, 0xFFFFFF7F), (0x0D, 1, 2),
        (0x0E, 0xFFFF, 0x10000), (0x0F, 0xFFFF, 0x10000), (0x80, 0xFF, 0x100), (0xA8, 0xFF, 0x100), (0xA9, 0xFF, 0x100),
        (0xAB, 0xFF, 0x100), (0xB0, 0xFF, 0x100), (0xBE, 0xFF, 0x100)].all (fun (hr, good, bad) =>
      next (runInput (.host (.write hr good)) ready) (fun t => !t.rej) &&
        next (runInput (.host (.write hr bad)) ready) (fun t => t.rejc = .badValue) &&
        next (runInput (.host (.write hr bad)) (running .polling 0 1 none [])) (fun t => t.rejc = .busy)) = true := by
  decide +kernel

/-- The largest legal value of each register is stored. -/
theorem test_meets_RegisterWritesStoreTheValue :
    next (runInput (.host (.write 0x08 5)) ready) (fun t => t.cfg.osT = 5) = true ∧
      next (runInput (.host (.write 0x09 5)) ready) (fun t => t.cfg.osP = 5) = true ∧
      next (runInput (.host (.write 0x0A 5)) ready) (fun t => t.cfg.osH = 5) = true ∧
      next (runInput (.host (.write 0x0B 7)) ready) (fun t => t.cfg.filter = 7) = true ∧
      next (runInput (.host (.write 0x0C 0xFFFFFF80)) ready) (fun t => t.cfg.ambTemp.toInt = -128) = true ∧
      next (runInput (.host (.write 0x0D 0)) ready) (fun t => !t.cfg.gasEn) = true ∧
      next (runInput (.host (.write 0x0E 0xFFFF)) ready) (fun t => t.cfg.heatTemp = 0xFFFF) = true ∧
      next (runInput (.host (.write 0x0F 0xFFFF)) ready) (fun t => t.cfg.heatDur = 0xFFFF) = true ∧
      next (runInput (.host (.write 0xA8 0xFF)) ready) (fun t => t.calbuf[40] = 0xFF) = true ∧
      next (runInput (.host (.write 0xAB 0xFF)) ready) (fun t => t.auxbuf[2] = 0xFF) = true ∧
      next (runInput (.host (.write 0xBE 0xFF)) ready) (fun t => t.fldbuf[14] = 0xFF) = true := by decide +kernel

theorem test_meets_HousekeepingOperations :
    ready.seq.state = .idle ∧ (running .triggered 0 0 none []).seq.state ≠ .idle := by decide

theorem test_meets_BusyRejectsEveryOperationButNop :
    Instr.clrerr ≠ .nop ∧ (running .timedOut 0 10 none []).seq.state ≠ .idle := by decide

/-- One state for each group of operations. -/
theorem test_meets_MissingFlagsRejectNotReady :
    State.reset.seq.state = .idle ∧ State.reset.calValid = false ∧
      { ready with rawValid := false }.rawValid = false ∧ { ready with tfineValid := false }.tfineValid = false ∧
      next (exec .heatr State.reset) (fun t => t.rejc = .notReady) = true ∧
      next (exec .compg { ready with rawValid := false }) (fun t => t.rejc = .notReady) = true ∧
      next (exec .comph { ready with tfineValid := false }) (fun t => t.rejc = .notReady) = true := by decide +kernel

theorem test_meets_DecodersDecodeTheBuffers : ready.seq.state = .idle := by decide

/-- V-T-1 is taken in this state; so are the other vectors of V-CAL-1 and V-F-1. -/
theorem test_meets_ComptComputesTemperature :
    ready.seq.state = .idle ∧ ready.calValid = true ∧ ready.rawValid = true := by decide

theorem test_meets_ComphComputesHumidity :
    ready.seq.state = .idle ∧ ready.calValid = true ∧ ready.rawValid = true ∧ ready.tfineValid = true := by decide

/-- A divisor that is not zero (V-P-1), and one that is: `par_p1` = 0 (R172). -/
theorem test_meets_ComppComputesPressure :
    ready.seq.state = .idle ∧ ready.calValid = true ∧ ready.rawValid = true ∧ ready.tfineValid = true ∧
      pressResult ready = some 100523 ∧
      pressResult { ready with cal := { cal1 with parP1 := 0 } } = none := by decide +kernel

theorem test_meets_CompgComputesGasResistance :
    ready.seq.state = .idle ∧ ready.calValid = true ∧ ready.rawValid = true := by decide

theorem test_meets_HeatrComputesTheResistanceCode : ready.seq.state = .idle ∧ ready.calValid = true := by decide

theorem test_meets_HeatdComputesTheDurationCode : ready.seq.state = .idle := by decide

theorem test_meets_InitIsAccepted : ready.seq.state = .idle := by decide

/-- With gas enabled and without. -/
theorem test_meets_MeasureIsAccepted :
    ready.seq.state = .idle ∧ ready.calValid = true ∧ ready.cfg.gasEn = true ∧
      { ready with cfg := { ready.cfg with gasEn := false } }.cfg.gasEn = false := by decide

theorem test_meets_OperationsMakeNoTransaction : ∃ t, exec .measure ready = .next t := ⟨_, rfl⟩

/-- Every micro-step of `Init` in turn; the soft-reset read finds 0 and something else, the chip-id read the chip's id. -/
theorem test_meets_InitMicroSteps :
    ([0#4, 1, 3, 4, 5, 6, 7, 8].all fun n => (running .init n 0 none []).seq.state = .init && (running .init n 0 none []).seq.step = n) =
        true ∧
      sensorByte { running .init 1 0 none [] with sensor := [(0xE0, 0)] } 0xE0 = 0 ∧
      sensorByte { running .init 1 0 none [] with sensor := [(0xE0, 0xB6)] } 0xE0 ≠ 0 ∧
      sensorByte { running .init 3 0 none [] with sensor := [(0xD0, 0x61)] } 0xD0 = 0x61 := by decide +kernel

theorem test_meets_InitFinishesWithTheDecode :
    (running .init 9 1 none []).seq.state = .init ∧ (running .init 9 1 none []).seq.step = 9 := by decide

/-- I2 of spec/95: chip id 0x60. -/
theorem test_meets_WrongChipIdEndsInit :
    (running .init 3 1 none []).seq.state = .init ∧ (running .init 3 1 none []).seq.step = 3 ∧
      sensorByte { running .init 3 1 none [] with sensor := [(0xD0, 0x60)] } 0xD0 ≠ 0x61 := by decide +kernel

/-- Every micro-step of `Configuring` in turn, with gas enabled and without, and the trigger. -/
theorem test_meets_ConfiguringMicroSteps :
    ([0#4, 1, 2, 3, 4, 5].all fun n =>
        (running .configuring n 0 none []).seq.state = .configuring && (running .configuring n 0 none []).seq.step = n) = true ∧
      (running .configuring 3 0 none []).cfg.gasEn = true ∧
      { running .configuring 3 0 none [] with cfg := { ready.cfg with gasEn := false } }.cfg.gasEn = false ∧
      (running .triggered 0 0 none []).seq = ⟨.triggered, 0, 0⟩ := by decide

/-- A ready answer, a last and an earlier one that is not; the ninth and the tenth poll meet at the boundary. -/
theorem test_meets_PollExaminesBitSeven :
    (running .polling 0 9 none []).seq.state = .polling ∧ (running .polling 0 9 none []).seq.step = 0 ∧
      (sensorByte { running .polling 0 9 none [] with sensor := [(0x1D, 0x80)] } 0x1D).getLsbD 7 = true ∧
      (sensorByte { running .polling 0 9 none [] with sensor := [(0x1D, 0x7F)] } 0x1D).getLsbD 7 = false ∧
      (running .polling 0 9 none []).seq.polls + 1 = 10 ∧ (running .polling 0 8 none []).seq.polls + 1 ≠ 10 := by
  decide +kernel

/-- Nine and ten milliseconds, in both waits. -/
theorem test_meets_WaitsLastAtLeastTenMilliseconds :
    (running .polling 1 1 (some 9) []).timer = some 9 ∧ (running .init 2 1 (some 10) []).timer = some 10 ∧
      (running .polling 1 1 (some 9) []).seq.state = .polling ∧ (running .init 2 1 (some 10) []).seq.step = 2 := by decide

theorem test_control_idle : ControlInv ready := by constructor <;> decide +kernel
theorem test_control_init : ControlInv (running .init 0 0 none [.turn true]) := by constructor <;> decide +kernel
theorem test_control_configuring : ControlInv (running .configuring 5 0 none [.turn true]) := by
  constructor <;> decide +kernel
theorem test_control_waiting : ControlInv (running .polling 1 9 (some 3) [.time 7]) := by constructor <;> decide +kernel
theorem test_control_timedOut : ControlInv (running .timedOut 0 10 none [.turn false]) := by constructor <;> decide +kernel
theorem test_control_dataReady : ControlInv (running .dataReady 1 10 none []) := by constructor <;> decide +kernel

theorem test_meets_TimedOutEndsWithNoNewData :
    ControlInv (running .timedOut 0 10 none [.turn false]) ∧
      (running .timedOut 0 10 none [.turn false]).seq.state = .timedOut := ⟨test_control_timedOut, rfl⟩

theorem test_meets_DataReadyReadsTheFieldBlock : (running .dataReady 0 1 none []).seq = ⟨.dataReady, 0, 1⟩ := by decide

theorem test_meets_DataReadyAgreesWithTheHostSequence :
    (running .dataReady 1 1 none []).seq = ⟨.dataReady, 1, 1⟩ ∧ (running .dataReady 1 1 none []).calValid = true := by decide

/-- A failing write in `Init` and one in a cycle, a failing read, and a micro-step that makes no transaction. -/
theorem test_meets_BusFailureEndsTheSequence :
    (ControlInv (running .init 0 0 none [.turn true]) ∧
        (running .init 0 0 none [.turn true]).nextTransaction = some (.write 0xE0 [0xB6])) ∧
      (ControlInv (running .configuring 5 0 none [.turn true]) ∧
        (running .configuring 5 0 none [.turn true]).nextTransaction = some (.write 0x71 [0x10])) ∧
      (ControlInv (running .dataReady 0 10 none []) ∧
        (running .dataReady 0 10 none []).nextTransaction = some (.read 0x1D 15)) ∧
      (running .timedOut 0 10 none []).nextTransaction = none :=
  ⟨⟨test_control_init, by decide⟩, ⟨test_control_configuring, by decide⟩, ⟨by constructor <;> decide +kernel, by decide⟩,
    by decide⟩

/-- Both ends of the field block and the registers beside it: a burst forgets the block only, a write to `config` is read back. -/
theorem test_meets_SensorContentAfterTransactions :
    ([0x1D, 0x2B].all fun k => (Memory.afterRead [(0x1C, 1), (0x1D, 2), (0x2B, 3), (0x2C, 4)] 0x1D 15).get? k = none) = true ∧
      ([0x1C, 0x2C].all fun k => (Memory.afterRead [(0x1C, 1), (0x1D, 2), (0x2B, 3), (0x2C, 4)] 0x1D 15).get? k ≠ none) =
        true ∧
      (Memory.afterWriteAttempt [(0xA1, 1), (0xA2, 2)] 0xE0).get? 0xA1 = some 1 ∧
      (Memory.afterWriteAttempt [(0xA1, 1), (0xA2, 2)] 0xE0).get? 0xA2 = none ∧
      (Memory.afterWrite [(0x74, 1)] 0x75 8).get? 0x75 = some 8 ∧ (Memory.afterWrite [(0x74, 1)] 0x74 8).get? 0x74 = none := by
  decide

theorem test_meets_ControlInvariantKept :
    ControlInv (running .polling 1 9 (some 3) [.time 7]) ∧ ∃ t, step (running .polling 1 9 (some 3) [.time 7]) = .next t :=
  ⟨test_control_waiting, _, rfl⟩

theorem test_format : FormatInv { ready with out := { OutRegs.reset with rng := 0b1010, status := 0xB0 } } := by
  constructor <;> decide +kernel

theorem test_meets_RegisterFormatsKept : FormatInv { ready with inputs := [.host (.write 0x08 6)] } ∧
    ∃ t, step { ready with inputs := [.host (.write 0x08 6)] } = .next t :=
  ⟨by constructor <;> decide +kernel, _, rfl⟩

theorem test_meets_TfineBoundsKept : TfineInv { ready with inputs := [.host (.write 0 0x20)] } ∧
    ∃ t, step { ready with inputs := [.host (.write 0 0x20)] } = .next t :=
  ⟨by unfold TfineInv; decide +kernel, _, rfl⟩

/-- The reading of S1: V-T-1, V-P-1, V-HU-1, the gas example. -/
def reading : State :=
  { ready with
    outValid := true
    out := { temp := 2630, press := 100523, hum := 51761, gas := 31281, status := 0xB0, gasIndex := 0, measIndex := 7, rng := 0 }
    inputs := [.host (.write 0 0x21)] }

theorem test_reading_press : PressCurrent reading := by
  unfold PressCurrent
  rw [show compP Config.pressPoly (fun _ => w32) Config.pressBranch (uval reading.raw.press) (sval reading.tFine) (pressCoefs reading.cal) =
    some 100523 by decide +kernel]
  decide +kernel

theorem test_reading : ReadingInv reading :=
  ⟨fun _ => by unfold TfineCurrent; decide +kernel,
    fun _ => ⟨by unfold TempCurrent; decide +kernel, test_reading_press, by unfold HumCurrent; decide +kernel,
      by unfold GasCurrent; decide +kernel⟩⟩

theorem test_meets_ValidFlagsStayTruthful : ControlInv reading ∧ ReadingInv reading ∧ ∃ t, step reading = .next t :=
  ⟨by constructor <;> decide +kernel, test_reading, _, rfl⟩

theorem test_meets_SensorSpaceStaysCanonical :
    SensorInv { ready with sensor := [(0x1D, 0x80), (0xD0, 0x61)], inputs := [.sensor 0x1E 7] } ∧
      ∃ t, step { ready with sensor := [(0x1D, 0x80), (0xD0, 0x61)], inputs := [.sensor 0x1E 7] } = .next t :=
  ⟨by unfold SensorInv; decide, _, rfl⟩

theorem test_meets_OnlyListedTransactionsAreMade :
    TraceInv { running .triggered 0 0 none [.turn false] with trace := [⟨.write 0x71 [0x10], .ok []⟩] } ∧
      ∃ t, step { running .triggered 0 0 none [.turn false] with trace := [⟨.write 0x71 [0x10], .ok []⟩] } = .next t :=
  ⟨by unfold TraceInv; simp; decide, _, rfl⟩

theorem test_meets_ResetLeavesTheStatedValues :
    (running .polling 1 3 (some 4) [.reset]).inputs = .reset :: [] := rfl

theorem test_meets_LegalStatesNeverStop : ControlInv (running .dataReady 1 10 none []) := test_control_dataReady

theorem test_meets_OnlyTheListedTransitions :
    ControlInv (running .timedOut 0 10 none [.turn false]) ∧ (running .timedOut 0 10 none [.turn false]).resetNext = false ∧
      ∃ t, step (running .timedOut 0 10 none [.turn false]) = .next t ∧
        t.seq.state ≠ (running .timedOut 0 10 none [.turn false]).seq.state :=
  ⟨test_control_timedOut, by decide, _, rfl, by decide⟩

theorem test_meets_CoefficientsAreImmutable :
    next (step { State.reset with auxbuf := auxImage, inputs := [.host (.write 0 0x10)] }) (fun t => t.cal ≠ State.reset.cal) =
      true := by decide +kernel

theorem test_meets_ConfigurationStableWhileBusy :
    (running .triggered 0 0 none [.host (.write 0x08 1)]).seq.state ≠ .idle ∧
      (running .triggered 0 0 none [.host (.write 0x08 1)]).resetNext = false ∧
      ∃ t, step (running .triggered 0 0 none [.host (.write 0x08 1)]) = .next t := ⟨by decide, by decide, _, rfl⟩

/-- A set `REJ` and an error that a step clears: `CLRERR`; and an error that a `COMPT` with its valid flags clears. -/
theorem test_meets_OutcomesStayUntilCleared :
    (ControlInv { ready with rej := true, rejc := .busy, err := .noNewData, inputs := [.host (.write 0 3)] } ∧
        next (step { ready with rej := true, rejc := .busy, err := .noNewData, inputs := [.host (.write 0 3)] })
          (fun t => !t.rej && t.err = .ok) = true) ∧
      ControlInv { ready with err := .noNewData, inputs := [.host (.write 0 0x20)] } ∧
      next (step { ready with err := .noNewData, inputs := [.host (.write 0 0x20)] }) (fun t => t.err = .ok) = true ∧
      readyFor .compt ready = true ∧ readyFor .compt State.reset = false :=
  ⟨⟨by constructor <;> decide +kernel, by decide +kernel⟩, by constructor <;> decide +kernel, by decide +kernel, by decide,
    by decide⟩

/-- A sensor that answers `INIT`: its registers hold V-CAL-1. -/
def sensor1 : Memory :=
  [(0x00, 0x2E), (0x02, 0xD6), (0x04, 0xF3)] ++ (calImage.toList.take 25).mapIdx (fun i b => (0x89 + i, b)) ++
    [(0xD0, 0x61)] ++ (calImage.toList.drop 25).mapIdx fun i b => (0xE1 + i, b)

theorem test_meets_InitReadsTheCalibration :
    State.reset.seq.state = .idle ∧ sensor1.get? 0xD0 = some 0x61 ∧
      (∀ i : Fin 41, sensor1.get? (if i.val < 25 then 0x89 + i.val else 0xE1 + (i.val - 25)) = some calImage[i]) ∧
      sensor1.get? 0x02 = some auxImage[0] ∧ sensor1.get? 0x00 = some auxImage[1] ∧ sensor1.get? 0x04 = some auxImage[2] := by
  decide +kernel

theorem test_meets_MeasureRunsTheCycle :
    ready.seq.state = .idle ∧ ready.calValid = true ∧ ready.cfg.gasEn = true ∧ (0x80#8).getLsbD 7 = true := by decide

/-- A tenth answer that is ready, and one that is not. -/
theorem test_meets_TenthPollDecides :
    (running .polling 0 0 none []).seq = ⟨.polling, 0, 0⟩ ∧ (0x7F#8).getLsbD 7 = false ∧ (0x80#8).getLsbD 7 = true := by decide

theorem test_meets_CyclesEnd :
    ControlInv (running .dataReady 1 10 none []) ∧ (running .dataReady 1 10 none []).inCycle = true ∧
      (running .dataReady 1 10 none []).inputs = [] := ⟨test_control_dataReady, by decide, rfl⟩

/-- The bounds' domains are not empty: the extremes that the rules name lie in them. -/
theorem test_meets_TemperatureFunctionBounds : compT 1048575 ⟨0, -32768, -128⟩ = (-2228204, -43520) := by decide +kernel
theorem test_meets_GasFunctionBounds : compG Config.lut1 Config.lut2 1023 15 (-8) = some 175 := by decide +kernel
theorem test_meets_HeaterFormulaBounds : heatResFull Config.heatPoly 400 127 ⟨127, 32767, 127, 0, -128⟩ = 472 := by decide +kernel

/-- 65, the first duration that does not round-trip, both sides of the saturation, and a code that is never produced. -/
theorem test_meets_DurationCodeRoundTrips :
    durDecode (heatDur 65) = 64 ∧ heatDur 4031 = 0xFE ∧ heatDur 4032 = 0xFF ∧ durDecode 0x4F = 60 := by decide

end Sys2Proof.Tests
end

