-- ==== Sys2Proof/Proofs/StatView.lean ====
section
/-! PROOFS. The view `STAT` as a number (R48). -/

namespace Sys2Proof.Machine

/-- Concatenated fields as a number: the upper field is shifted left by the width of the lower one. Since the lower field is
below `2 ^ n`, the bitwise or of `BitVec.toNat_append` never meets a set bit twice and is a sum. -/
theorem toNat_append_eq_add {m n : Nat} (x : BitVec m) (y : BitVec n) :
    (x ++ y).toNat = 2 ^ n * x.toNat + y.toNat := by
  rw [BitVec.toNat_append, Nat.shiftLeft_eq, Nat.mul_comm, Nat.two_pow_add_eq_or_of_lt y.isLt]

/-- `STAT` as a number: every field weighted by `2 ^` its bit position; nothing stands above `SEQ.step` (R48). -/
theorem toNat_stat (s : State) :
    (stat s).toNat = s.seq.state.code.toNat + 8 * s.busy.toNat + 16 * s.done.toNat + 32 * s.rej.toNat +
      64 * s.calValid.toNat + 128 * s.rawValid.toNat + 256 * s.tfineValid.toNat + 512 * s.outValid.toNat +
      1024 * s.seq.step.toNat := by
  simp only [stat, toNat_append_eq_add, BitVec.toNat_ofBool, BitVec.toNat_ofNat]
  omega

/-- Every field of `STAT` is 0 at reset, so the view is (R48, R54). -/
theorem stat_reset : stat State.reset = 0 := by decide

/-- Settles O13: the bit positions of R48 are the weights of `toNat_stat`. -/
theorem statViewIsTheSumOfItsFields : Obligations.StatViewIsTheSumOfItsFields :=
  fun s => ⟨toNat_stat s, stat_reset⟩

end Sys2Proof.Machine
end

section
/-! PROOFS. The encodings: reserved and read-only host register numbers (R97), the raw field decoder (R116 to R119), reserved
command words (R93). -/

namespace Sys2Proof.Machine

/-! ### Host register numbers (R96, R97) -/

/-- The numbers that have a register, as ranges: the rows of R96 in order. -/
theorem map_hostRegNumber_all :
    HostReg.all.map (fun r => (Config.hostRegNumber r).toNat) =
      List.range' 0x00 5 ++ List.range' 0x08 10 ++ List.range' 0x20 26 ++ List.range' 0x3F 9 ++ List.range' 0x50 8 ++
        List.range' 0x80 41 ++ List.range' 0xA9 3 ++ List.range' 0xB0 15 := by
  decide

/-- The numbers of the writable registers, as ranges: the `RW*` rows of R96. -/
theorem map_hostRegNumber_writable :
    (HostReg.all.filter writable).map (fun r => (Config.hostRegNumber r).toNat) =
      List.range' 0x08 8 ++ List.range' 0x80 41 ++ List.range' 0xA9 3 ++ List.range' 0xB0 15 := by
  decide

/-- Number `n` lies in one of the seven reserved ranges of R97. -/
def ReservedNumber (n : Nat) : Prop :=
  (0x05 ≤ n ∧ n ≤ 0x07) ∨ (0x12 ≤ n ∧ n ≤ 0x1F) ∨ (0x3A ≤ n ∧ n ≤ 0x3E) ∨ (0x48 ≤ n ∧ n ≤ 0x4F) ∨
    (0x58 ≤ n ∧ n ≤ 0x7F) ∨ (0xAC ≤ n ∧ n ≤ 0xAF) ∨ 0xBF ≤ n

/-- Number `n` lies in one of the ranges of R96 whose access is `R`. -/
def ReadOnlyNumber (n : Nat) : Prop :=
  (0x01 ≤ n ∧ n ≤ 0x04) ∨ (0x10 ≤ n ∧ n ≤ 0x11) ∨ (0x20 ≤ n ∧ n ≤ 0x39) ∨ (0x3F ≤ n ∧ n ≤ 0x47) ∨
    (0x50 ≤ n ∧ n ≤ 0x57)

theorem hostRegNumber_of_decodeHostReg {hr : BitVec 8} {r : HostReg} (h : decodeHostReg hr = some r) :
    Config.hostRegNumber r = hr := by
  simpa using List.find?_some h

/-- A number names no register when it is missing from the numbers of R96. -/
theorem decodeHostReg_eq_none_iff (hr : BitVec 8) :
    decodeHostReg hr = none ↔ hr.toNat ∉ HostReg.all.map fun r => (Config.hostRegNumber r).toNat := by
  simp [decodeHostReg, List.find?_eq_none, BitVec.toNat_inj]

/-- R97: the reserved ranges are the gaps between the rows of R96. -/
theorem decodeHostReg_eq_none_iff_reserved (hr : BitVec 8) :
    decodeHostReg hr = none ↔ ReservedNumber hr.toNat := by
  have hlt := hr.isLt
  simp only [decodeHostReg_eq_none_iff, map_hostRegNumber_all, List.mem_append, List.mem_range'_1, ReservedNumber]
  omega

/-- A writable register's number is in none of the read-only ranges. -/
theorem not_readOnlyNumber_of_writable {r : HostReg} (h : writable r = true) :
    ¬ ReadOnlyNumber (Config.hostRegNumber r).toNat := by
  have hmem : (Config.hostRegNumber r).toNat ∈
      (HostReg.all.filter writable).map fun r => (Config.hostRegNumber r).toNat :=
    List.mem_map_of_mem (List.mem_filter.2 ⟨HostReg.mem_all r, h⟩)
  simp only [map_hostRegNumber_writable, List.mem_append, List.mem_range'_1] at hmem
  unfold ReadOnlyNumber
  omega

/-! ### Accesses to reserved and read-only numbers -/

/-- A write to a number that names no writable register is rejected `BadRegister`, whatever the state and the data (R241). -/
theorem hostWrite_eq_reject_badRegister {hr : BitVec 8} (data : Word) (s : State)
    (h : ∀ r, decodeHostReg hr = some r → writable r = false) : hostWrite hr data s = reject .badRegister s := by
  unfold hostWrite
  cases hd : decodeHostReg hr with
  | none => rfl
  | some r => simp [h r hd]

theorem writable_eq_false_of_reserved_or_readOnly {hr : BitVec 8} {r : HostReg}
    (h : ReservedNumber hr.toNat ∨ ReadOnlyNumber hr.toNat) (hd : decodeHostReg hr = some r) : writable r = false := by
  rcases h with hres | hro
  · simp [(decodeHostReg_eq_none_iff_reserved hr).2 hres] at hd
  · rw [← hostRegNumber_of_decodeHostReg hd] at hro
    exact Bool.eq_false_iff.2 fun hw => not_readOnlyNumber_of_writable hw hro

/-- `CMD` (number 0) is neither reserved nor read-only. -/
theorem ne_zero_of_reserved_or_readOnly {hr : BitVec 8}
    (h : ReservedNumber hr.toNat ∨ ReadOnlyNumber hr.toNat) : hr ≠ 0 := by
  rintro rfl
  simp [ReservedNumber, ReadOnlyNumber] at h

/-- A write to a number other than `CMD` is a register write (R240, R241). -/
theorem runInput_write {hr : BitVec 8} (data : Word) (s : State) (h : hr ≠ 0) :
    runInput (.host (.write hr data)) s = .next (hostWrite hr data s) :=
  if_neg h

theorem hostRead_eq_zero_of_none {hr : BitVec 8} (s : State) (h : decodeHostReg hr = none) : hostRead s hr = 0 := by
  simp [hostRead, h]

/-- Settles O4: a write finds no writable register under such a number, and a read of a reserved one finds no register. -/
theorem reservedAndReadOnlyRegisters : Obligations.ReservedAndReadOnlyRegisters := by
  intro s hr data
  refine ⟨decodeHostReg_eq_none_iff_reserved hr, fun h => ?_, fun h => ?_⟩
  · rw [runInput_write data s (ne_zero_of_reserved_or_readOnly h),
      hostWrite_eq_reject_badRegister data s fun _ => writable_eq_false_of_reserved_or_readOnly h]
    rfl
  · have hzero := hostRead_eq_zero_of_none s ((decodeHostReg_eq_none_iff_reserved hr).2 h)
    simp only [runInput, hostAction, answerRead, hzero]

/-! ### The raw fields as numbers (R117 to R119) -/

/-- A bit field as a number: drop the bits below it, then keep its width. -/
theorem toNat_extractLsb'_eq_div_mod {w : Nat} (x : BitVec w) (start len : Nat) :
    (x.extractLsb' start len).toNat = x.toNat / 2 ^ start % 2 ^ len := by
  rw [BitVec.extractLsb'_toNat, Nat.shiftRight_eq_div_pow]

/-- R117: a 20-bit code of two bytes and the upper nibble of a third, most significant first. -/
theorem toNat_twentyBitCode (hi mid lo : Byte) :
    (hi ++ mid ++ lo.extractLsb' 4 4).toNat = 4096 * hi.toNat + 16 * mid.toNat + lo.toNat / 16 := by
  have hlo := lo.isLt
  rw [toNat_append_eq_add, toNat_append_eq_add, toNat_extractLsb'_eq_div_mod]
  omega

/-- R118: the 10-bit gas code of one byte and the two top bits of the next. -/
theorem toNat_gasCode (hi lo : Byte) :
    (hi ++ lo.extractLsb' 6 2).toNat = 4 * hi.toNat + lo.toNat / 64 := by
  have hlo := lo.isLt
  rw [toNat_append_eq_add, toNat_extractLsb'_eq_div_mod]
  omega

/-- The low nibble of a byte, which holds the gas range (R118) and the gas index (R119). -/
theorem toNat_lowNibble (b : Byte) : (b.extractLsb' 0 4).toNat = b.toNat % 16 := by
  simp

/-- Settles O7: under the layout of R116 each field is one of the bit fields above; the flags are the bits themselves. -/
theorem fieldDecodeGivesTheRawSample : Obligations.FieldDecodeGivesTheRawSample := by
  intro buf
  refine ⟨?press, ?temp, ?hum, ?gas, ?range, rfl, rfl, rfl, ?gasIndex, rfl⟩
  case press => exact toNat_twentyBitCode _ _ _
  case temp => exact toNat_twentyBitCode _ _ _
  case hum => exact toNat_append_eq_add _ _
  case gas => exact toNat_gasCode _ _
  case range => exact toNat_lowNibble _
  case gasIndex => exact toNat_lowNibble _

/-! ### Reserved command words (R93, R242) -/

theorem commandCode_of_decodeByte {c : Byte} {i : Instr} (h : decodeByte c = some i) : Config.commandCode i = c := by
  simpa using List.find?_some h

/-- A word that decodes is a code of R92, all 32 bits of it: the bits above the byte are 0. -/
theorem toNat_of_decodeCommand {data : Word} {i : Instr} (h : decodeCommand data = .ok i) :
    data.toNat = (Config.commandCode i).toNat := by
  unfold decodeCommand at h
  split at h
  case isTrue hle =>
    split at h
    case h_1 j hj =>
      cases h
      rw [commandCode_of_decodeByte hj, BitVec.toNat_setWidth]
      omega
    case h_2 => cases h
  case isFalse => cases h

/-- The twelve codes written out (R92). -/
theorem toNat_commandCode_mem (i : Instr) : (Config.commandCode i).toNat ∈
    [0x00, 0x01, 0x02, 0x03, 0x10, 0x11, 0x20, 0x21, 0x22, 0x23, 0x30, 0x31] := by
  cases i <;> decide

/-- R93: a word outside the twelve codes is no operation. -/
theorem decodeCommand_of_reserved {data : Word}
    (h : data.toNat ∉ [0x00, 0x01, 0x02, 0x03, 0x10, 0x11, 0x20, 0x21, 0x22, 0x23, 0x30, 0x31]) :
    decodeCommand data = .error .badCommand := by
  cases hd : decodeCommand data with
  | ok i => exact absurd (toNat_of_decodeCommand hd ▸ toNat_commandCode_mem i) h
  | error e => cases e; rfl

theorem runInput_command_of_error {data : Word} (s : State) (h : decodeCommand data = .error .badCommand) :
    runInput (.host (.write 0 data)) s = .next (rejectCommand s) := by
  simp only [runInput, hostAction, hostRegNumber_cmd, if_true, commandWrite, h]

theorem rejectCommand_idle (s : State) (h : s.seq.state = .idle) : rejectCommand s = reject .badCommand s := by
  simp [rejectCommand, (State.busy_eq_false s).2 h]

theorem rejectCommand_running (s : State) (h : s.seq.state ≠ .idle) : rejectCommand s = reject .busy s := by
  simp [rejectCommand, (State.busy_eq_true s).2 h]

/-- Settles O10: the word decodes to no operation, and the sequencer's state picks the cause, `Busy` first (R242). -/
theorem reservedCommandsRejected : Obligations.ReservedCommandsRejected := by
  intro s data rest hin hres
  have hstep : step s = .next (rejectCommand { s with inputs := rest }) := by
    rw [step_input s _ rest hin, runInput_command_of_error _ (decodeCommand_of_reserved hres)]
  exact ⟨fun hidle => hstep.trans (congrArg _ (rejectCommand_idle { s with inputs := rest } hidle)),
    fun hrun => hstep.trans (congrArg _ (rejectCommand_running { s with inputs := rest } hrun))⟩

end Sys2Proof.Machine
end

section
/-! PROOFS. The calibration decoder: what `CalDecode` makes of each byte (R130, R133 to R137), and who may change a
coefficient (R138). -/

namespace Sys2Proof.Machine

/-! ### The coefficients as numbers (R130) -/

/-- A register's signed value is the signed reading (R15) of its bits. -/
theorem toInt_eq_sext_toNat {n : Nat} (v : BitVec (n + 1)) : v.toInt = sext (n + 1) v.toNat := by
  have hlt : (v.toNat : Int) < 2 ^ (n + 1) := by exact_mod_cast v.isLt
  have hzext : zext (n + 1) v.toNat = v.toNat := Int.emod_eq_of_lt (by omega) hlt
  rw [sext_eq_reading, hzext, BitVec.toInt_eq_toNat_cond]
  push_cast
  congr 1
  rw [pow_succ, eq_iff_iff]
  exact_mod_cast (by omega : 2 * v.toNat < 2 ^ n * 2 ↔ v.toNat < 2 ^ n)

/-- A one-byte signed coefficient (R134). -/
theorem toInt_byte (b : Byte) : b.toInt = sext 8 b.toNat := toInt_eq_sext_toNat b

/-- R133: an unsigned 16-bit coefficient, its most significant byte first. -/
theorem toNat_pairAt (buf : Vector Byte 41) (p : Config.BytePair) :
    ((pairAt buf p).toNat : Int) = 256 * buf[p.hi].toNat + buf[p.lo].toNat := by
  exact_mod_cast toNat_append_eq_add buf[p.hi] buf[p.lo]

/-- R133: a signed 16-bit coefficient. -/
theorem toInt_pairAt (buf : Vector Byte 41) (p : Config.BytePair) :
    (pairAt buf p).toInt = sext 16 (256 * buf[p.hi].toNat + buf[p.lo].toNat) := by
  rw [toInt_eq_sext_toNat, toNat_pairAt]

/-- The high nibble of a byte, which holds `par_h2`'s low bits (R135) and `range_sw_error` (R137). -/
theorem toNat_highNibble (b : Byte) : (b.extractLsb' 4 4).toNat = b.toNat / 16 := by
  have hb := b.isLt
  rw [toNat_extractLsb'_eq_div_mod]
  omega

/-- R135: `par_h1` takes the low nibble of the shared byte. -/
theorem toNat_nibblePair_low (upper shared : Byte) :
    ((nibblePair upper (shared.extractLsb' 0 4)).toNat : Int) = 16 * upper.toNat + shared.toNat % 16 := by
  rw [nibblePair, toNat_append_eq_add, toNat_lowNibble]
  rfl

/-- R135: `par_h2` takes the high nibble of the shared byte. -/
theorem toNat_nibblePair_high (upper shared : Byte) :
    ((nibblePair upper (shared.extractLsb' 4 4)).toNat : Int) = 16 * upper.toNat + shared.toNat / 16 := by
  rw [nibblePair, toNat_append_eq_add, toNat_highNibble]
  rfl

/-- R137: `range_sw_error` is the signed reading of the high nibble. -/
theorem toInt_highNibble (b : Byte) : (b.extractLsb' 4 4).toInt = sext 4 (b.toNat / 16 : Nat) := by
  rw [toInt_eq_sext_toNat, toNat_highNibble]

/-- Settles O5: under the layout of R111 each coefficient is a byte, a pair of bytes or a nibble pair, read with its sign. -/
theorem calDecodeGivesTheCoefficients : Obligations.CalDecodeGivesTheCoefficients := by
  intro buf aux
  refine ⟨?t1, ?t2, ?t3, ?p1, ?p2, ?p3, ?p4, ?p5, ?p6, ?p7, ?p8, ?p9, rfl, ?h1, ?h2, ?h3, ?h4, ?h5, rfl, ?h7, ?g1, ?g2, ?g3,
    ?resHeatRange, ?resHeatVal, ?rangeSwError⟩
  case t1 | p1 => exact toNat_pairAt _ _
  case t2 | p2 | p4 | p5 | p8 | p9 | g2 => exact toInt_pairAt _ _
  case t3 | p3 | p6 | p7 | h3 | h4 | h5 | h7 | g1 | g3 | resHeatVal => exact toInt_byte _
  case h1 => exact toNat_nibblePair_low _ _
  case h2 => exact toNat_nibblePair_high _ _
  case resHeatRange => exact toNat_extractLsb'_eq_div_mod _ 4 2
  case rangeSwError => exact toInt_highNibble _

/-! ### What leaves the coefficients alone (R138) -/

/-! The host port. -/

@[simp] theorem writeReg_cal (data : Word) (s : State) (r : HostReg) : (writeReg data s r).cal = s.cal := by
  rw [writeReg_frame]

@[simp] theorem hostWrite_cal (hr : BitVec 8) (data : Word) (s : State) : (hostWrite hr data s).cal = s.cal := by
  obtain ⟨c, -, heq⟩ | ⟨r, -, -, -, -, heq⟩ := hostWrite_cases hr data s <;> simp [heq]

@[simp] theorem rejectCommand_cal (s : State) : (rejectCommand s).cal = s.cal := by
  unfold rejectCommand
  split <;> rfl

/-! The operations. -/

@[simp] theorem heaterCodes_cal (s : State) : (heaterCodes s).cal = s.cal := by
  unfold heaterCodes
  split <;> simp

@[simp] theorem compAll_cal (s : State) : (compAll s).cal = s.cal := by
  simp [compAll]

/-- Of the operations only `CALDEC` writes a coefficient when it is accepted: `INIT` does so in its last micro-step. -/
theorem acceptedBody_cal {i : Instr} (s : State) (h : i ≠ .caldec) : (acceptedBody i s).cal = s.cal := by
  cases i with
  | caldec => exact absurd rfl h
  | nop | clrerr => rfl
  | init => simp [acceptedBody, initBody]
  | measure => simp [acceptedBody, measureBody]
  | flddec => simp [acceptedBody, flddecBody]
  | compt => simp [acceptedBody, comptBody]
  | compp => simp [acceptedBody, comppBody]
  | comph => simp [acceptedBody, comphBody]
  | compg => simp [acceptedBody, compgBody]
  | heatr => simp [acceptedBody, heatrBody]
  | heatd => simp [acceptedBody, heatdBody]

theorem exec_cal {i : Instr} {s t : State} (hne : i ≠ .caldec) (h : exec i s = .next t) : t.cal = s.cal := by
  obtain ⟨-, rfl⟩ | ⟨-, -, rfl⟩ | ⟨-, -, -, rfl⟩ | ⟨-, -, -, rfl⟩ := exec_cases h
  · rfl
  · exact reject_cal _ _
  · exact reject_cal _ _
  · rw [acceptedBody_cal _ hne, accept_cal]

/-- A host action that changes a coefficient is the command write of `CALDEC`. -/
theorem hostAction_cal {a : HostAction} {s t : State} (h : hostAction a s = .next t) :
    t.cal = s.cal ∨ ∃ data, a = .write 0 data ∧ decodeCommand data = .ok .caldec := by
  obtain ⟨hr, -, rfl⟩ | ⟨hr, data, -, -, rfl⟩ | ⟨data, -, -, rfl⟩ | ⟨data, i, ha, hdec, hexec⟩ := hostAction_cases h
  · exact .inl (answerRead_cal hr s)
  · exact .inl (hostWrite_cal hr data s)
  · exact .inl (rejectCommand_cal s)
  · by_cases hi : i = .caldec
    · exact .inr ⟨data, ha, hi ▸ hdec⟩
    · exact .inl (exec_cal hi hexec)

/-! The micro-steps. -/

/-- A read micro-step keeps the coefficients when what it does with its bytes does. -/
theorem readStep_cal {k : List Byte → State → State} (s : State) (f : Bool) (addr : Byte) (n : Nat)
    (hk : ∀ bs u, (k bs u).cal = u.cal) : (readStep s f addr n k).cal = s.cal := by
  obtain heq | heq := readStep_cases s f addr n k <;> simp [heq, hk]

/-- A write micro-step keeps the coefficients when what follows the write does. -/
theorem writeStep_cal {k : State → State} (s : State) (f : Bool) (addr b : Byte)
    (hk : ∀ u, (k u).cal = u.cal) : (writeStep s f addr b k).cal = s.cal := by
  obtain heq | heq := writeStep_cases s f addr b k <;> simp [heq, hk]

@[simp] theorem waitStep_cal (bound : Nat) (n : BitVec 4) (s : State) : (waitStep bound n s).cal = s.cal := by
  unfold waitStep
  split <;> rfl

@[simp] theorem initPolled_cal (b : Byte) (s : State) : (initPolled b s).cal = s.cal := by
  simp only [initPolled]
  split
  · rfl
  · split <;> rfl

@[simp] theorem initIdentified_cal (b : Byte) (s : State) : (initIdentified b s).cal = s.cal := by
  unfold initIdentified
  split <;> rfl

@[simp] theorem polled_cal (b : Byte) (s : State) : (polled b s).cal = s.cal := by
  simp only [polled]
  split
  · rfl
  · split <;> rfl

@[simp] theorem cycleFinish_cal (s : State) : (cycleFinish s).cal = s.cal := by
  simp only [cycleFinish, endOperation_cal, compAll_cal, decodeSample_cal]

/-- Of the micro-steps of `Init` only the last one, step 9, decodes (R205, R206). -/
theorem initStep_cal {f : Bool} {s t : State} (h : initStep f s = .next t) : t.cal = s.cal ∨ s.seq.step = 9 := by
  obtain ⟨-, rfl⟩ | ⟨-, rfl⟩ | ⟨-, rfl⟩ | ⟨-, rfl⟩ | ⟨-, rfl⟩ | ⟨-, rfl⟩ | ⟨-, rfl⟩ | ⟨-, rfl⟩ | ⟨-, rfl⟩ | ⟨hlast, -⟩ :=
    initStep_cases h
  · exact .inl (writeStep_cal _ _ _ _ fun _ => rfl)
  · exact .inl (readStep_cal _ _ _ _ fun _ _ => initPolled_cal _ _)
  · exact .inl (waitStep_cal _ _ _)
  · exact .inl (readStep_cal _ _ _ _ fun _ _ => initIdentified_cal _ _)
  iterate 5 exact .inl (readStep_cal _ _ _ _ fun _ _ => goto_cal _ _ _)
  · exact .inr hlast

/-- `Configuring` only writes to the sensor (R208, R209). -/
theorem configuringStep_cal {f : Bool} {s t : State} (h : configuringStep f s = .next t) : t.cal = s.cal := by
  obtain ⟨-, rfl⟩ | ⟨-, rfl⟩ | ⟨-, rfl⟩ | ⟨-, -, rfl⟩ | ⟨-, -, rfl⟩ | ⟨-, rfl⟩ | ⟨-, rfl⟩ := configuringStep_cases h
  all_goals exact writeStep_cal _ _ _ _ fun _ => rfl

/-- The micro-step `(Init, 9)` is the only one that can change a coefficient. -/
theorem microStep_cal {f : Bool} {s t : State} (h : microStep f s = .next t) :
    t.cal = s.cal ∨ (s.seq.state = .init ∧ s.seq.step = 9) := by
  obtain ⟨-, rfl⟩ | ⟨hinit, h⟩ | ⟨-, h⟩ | ⟨-, -, rfl⟩ | ⟨-, -, rfl⟩ | ⟨-, -, rfl⟩ | ⟨-, -, rfl⟩ | ⟨-, -, rfl⟩ |
    ⟨-, -, rfl⟩ := microStep_cases h
  · exact .inl rfl
  · exact (initStep_cal h).imp_right fun hlast => ⟨hinit, hlast⟩
  · exact .inl (configuringStep_cal h)
  · exact .inl (writeStep_cal _ _ _ _ fun _ => rfl)
  · exact .inl (readStep_cal _ _ _ _ fun _ _ => polled_cal _ _)
  · exact .inl (waitStep_cal _ _ _)
  · exact .inl (readStep_cal _ _ _ _ fun _ _ => goto_cal _ _ _)
  · exact .inl (cycleFinish_cal s)
  · exact .inl (endOperation_cal _ s)

/-! The step. -/

theorem resetNext_of_inputs {s : State} {rest : List Input} (h : s.inputs = .reset :: rest) : s.resetNext = true := by
  simp [State.resetNext, h]

/-- The operation that a scheduled command write starts is the one its data decodes to (R242). -/
theorem commandNext_of_inputs {s : State} {data : Word} {i : Instr} {rest : List Input}
    (h : s.inputs = .host (.write 0 data) :: rest) (hdec : decodeCommand data = .ok i) : s.commandNext = some i := by
  simp [State.commandNext, fetch, h, hdec]

/-- Settles O50, by the event at the head of the schedule; the sensor's and the timer's events touch no register. -/
theorem coefficientsAreImmutable : Obligations.CoefficientsAreImmutable := by
  intro s t h hne
  obtain ⟨a, rest, hin, hact⟩ | ⟨f, rest, -, hmicro⟩ | ⟨a, v, rest, -, rfl⟩ | ⟨ms, rest, -, rfl⟩ | ⟨rest, hin, -⟩ |
    ⟨b, -, -, -, rfl⟩ | ⟨f, -, hmicro⟩ := step_cases h
  · obtain hcal | ⟨data, rfl, hdec⟩ := hostAction_cal hact
    · exact absurd hcal hne
    · exact .inr (.inl (commandNext_of_inputs hin hdec))
  · exact .inr (.inr ((microStep_cal hmicro).resolve_left hne))
  · exact absurd rfl hne
  · exact absurd (passTime_cal _ _) hne
  · exact .inl (resetNext_of_inputs hin)
  · exact absurd ((passTime_cal _ _).trans (State.nextDraw_cal s)) hne
  · exact .inr (.inr ((microStep_cal hmicro).resolve_left hne))

end Sys2Proof.Machine
end

section
/-! PROOFS. The compensation engine: the bounds of the temperature function (R164), and that the end of a cycle computes what
the host sequence `COMPT; COMPP; COMPH; COMPG` computes (R185). -/

namespace Sys2Proof.Machine

/-! ### The temperature function, by its intermediate values (R162, R164) -/

/-- `CompT` written out. -/
theorem compT_eq (raw : Int) (c : TempCoefs) :
    compT raw c =
      let var1 := asr raw 3 - shl c.t1 1
      let var3 := asr (asr var1 1 * asr var1 1) 12
      let tFine := asr (var1 * c.t2) 11 + asr (var3 * shl c.t3 4) 14
      (tFine, asr (tFine * 5 + 128) 8) := by
  rw [compT]

theorem tempVar1_bounds {raw t1 : Int} (hraw0 : 0 ≤ raw) (hraw : raw ≤ 1048575) (ht0 : 0 ≤ t1) (ht : t1 ≤ 65535) :
    -131070 ≤ asr raw 3 - shl t1 1 ∧ asr raw 3 - shl t1 1 ≤ 131071 := by
  simp only [asr_eq_div, shl]
  omega

/-- The linear term: for either sign of `var1` the extremes lie at the ends of `t2`. The largest product has two negative
factors, so it is smaller than the bound R164 states for `|var1 * t2|`. -/
theorem tempProduct_bounds {v t2 : Int} (hv0 : -131070 ≤ v) (hv : v ≤ 131071) (ht0 : -32768 ≤ t2) (ht : t2 ≤ 32767) :
    -4294934528 ≤ v * t2 ∧ v * t2 ≤ 4294901760 := by
  obtain hpos | hneg := le_total 0 v
  · have hlo := mul_le_mul_of_nonneg_left ht0 hpos
    have hhi := mul_le_mul_of_nonneg_left ht hpos
    omega
  · have hlo := mul_le_mul_of_nonpos_left ht hneg
    have hhi := mul_le_mul_of_nonpos_left ht0 hneg
    omega

/-- The squared term: halving brings `var1` into `-65535 .. 65535`. -/
theorem tempSquare_bounds {v : Int} (hv0 : -131070 ≤ v) (hv : v ≤ 131071) :
    0 ≤ asr (asr v 1 * asr v 1) 12 ∧ asr (asr v 1 * asr v 1) 12 ≤ 1048544 := by
  simp only [asr_eq_div]
  have hhalf : |v / 2 ^ 1| ≤ |65535| := abs_le_abs (by omega) (by omega)
  have hsq0 := mul_self_nonneg (v / 2 ^ 1)
  have hsq := abs_le_iff_mul_self_le.1 hhalf
  omega

/-- The quadratic term: `var3` is not negative, so the extremes lie at the ends of `t3`. -/
theorem tempQuadratic_bounds {q t3 : Int} (hq0 : 0 ≤ q) (hq : q ≤ 1048544) (ht0 : -128 ≤ t3) (ht : t3 ≤ 127) :
    -131068 ≤ asr (q * shl t3 4) 14 ∧ asr (q * shl t3 4) 14 ≤ 130044 := by
  simp only [asr_eq_div, shl]
  have hlo := mul_le_mul_of_nonneg_left (show -2048 ≤ t3 * 2 ^ 4 by omega) hq0
  have hhi := mul_le_mul_of_nonneg_left (show t3 * 2 ^ 4 ≤ 2032 by omega) hq0
  omega

/-- The bounds of `t_fine`: the linear and the quadratic term reach their extremes together. -/
theorem compT_tFine_bounds {raw : Int} {c : TempCoefs} (hraw0 : 0 ≤ raw) (hraw : raw ≤ 1048575)
    (h1 : 0 ≤ c.t1) (h1' : c.t1 ≤ 65535) (h2 : -32768 ≤ c.t2) (h2' : c.t2 ≤ 32767) (h3 : -128 ≤ c.t3) (h3' : c.t3 ≤ 127) :
    -2228204 ≤ (compT raw c).1 ∧ (compT raw c).1 ≤ 2227164 := by
  obtain ⟨hv0, hv⟩ := tempVar1_bounds hraw0 hraw h1 h1'
  obtain ⟨hq0, hq⟩ := tempSquare_bounds hv0 hv
  have hlin := tempProduct_bounds hv0 hv h2 h2'
  have hquad := tempQuadratic_bounds hq0 hq h3 h3'
  simp only [compT_eq]
  rw [asr_eq_div _ 11]
  omega

/-- The result is `t_fine` scaled (R165). -/
theorem compT_snd (raw : Int) (c : TempCoefs) : (compT raw c).2 = ((compT raw c).1 * 5 + 128) / 256 := by
  rw [compT_eq]
  exact asr_eq_div _ 8

/-- Settles O57: `T` and the 24-bit bound follow from the bounds of `t_fine`; both extremes are evaluated. -/
theorem temperatureFunctionBounds : Obligations.TemperatureFunctionBounds := by
  refine ⟨fun raw t1 t2 t3 hraw0 hraw h1 h1' h2 h2' h3 h3' => ?_, by decide +kernel, by decide +kernel⟩
  obtain ⟨hv0, hv⟩ := tempVar1_bounds hraw0 hraw h1 h1'
  obtain ⟨hp0, hp⟩ := tempProduct_bounds hv0 hv h2 h2'
  obtain ⟨hq0, hq⟩ := tempSquare_bounds hv0 hv
  obtain ⟨hf0, hf⟩ := compT_tFine_bounds (c := ⟨t1, t2, t3⟩) hraw0 hraw h1 h1' h2 h2' h3 h3'
  have hT := compT_snd raw ⟨t1, t2, t3⟩
  exact ⟨hv, hv0, hp0, by omega, hq0, hq, hf0, hf, by omega, by omega, by omega⟩

/-! ### The functions ignore the control position and the outcome (R160, R185) -/

/-- The state with another control position and outcome. -/
def withControl (q : SeqRegs) (e : ErrCode) (d : Bool) (s : State) : State := { s with seq := q, err := e, done := d }

@[simp] theorem withControl_out (q : SeqRegs) (e : ErrCode) (d : Bool) (s : State) : (withControl q e d s).out = s.out := rfl

@[simp] theorem readyFor_withControl (i : Instr) (q : SeqRegs) (e : ErrCode) (d : Bool) (s : State) :
    readyFor i (withControl q e d s) = readyFor i s := by
  cases i <;> rfl

/-- The acceptance changes the outcome only (R247). -/
theorem accept_withControl (q : SeqRegs) (e : ErrCode) (d : Bool) (s : State) :
    accept (withControl q e d s) = withControl q .ok false s := rfl

/-- The end of an operation in `Idle` changes the outcome only (R268). -/
theorem endOperation_withControl {q : SeqRegs} (hidle : q.state = .idle) (e e' : ErrCode) (d : Bool) (s : State) :
    endOperation e' (withControl q e d s) = withControl q e' true s :=
  endOperation_idle e' _ hidle

/-- A computation that neither reads nor writes `SEQ`, `ERR` and `DONE`. -/
def IgnoresControl (body : State → State) : Prop :=
  ∀ q e d s, body (withControl q e d s) = withControl q e d (body s)

theorem tempBody_ignoresControl : IgnoresControl tempBody := fun _ _ _ _ => rfl

theorem pressBody_ignoresControl : IgnoresControl pressBody := by
  intro q e d s
  rw [pressBody_eq, pressBody_eq]
  rfl

theorem humBody_ignoresControl : IgnoresControl humBody := fun _ _ _ _ => rfl

theorem gasBody_ignoresControl : IgnoresControl gasBody := fun _ _ _ _ => rfl

/-! ### The host sequence -/

/-- An operation in `Idle` whose valid flags are set is accepted (R242). -/
theorem exec_accepted {i : Instr} {s : State} (hne : i ≠ .nop) (hidle : s.seq.state = .idle) (hready : readyFor i s = true) :
    exec i s = .next (acceptedBody i (accept s)) := by
  rw [exec_eq_acceptOr i s hne, acceptOr_accepted _ _ s hidle hready]

/-- An operation that computes with `body` and ends leaves what `body` leaves, whatever outcome stood before it. -/
theorem exec_withControl {i : Instr} {body : State → State} {outcome : BitVec 4 → ErrCode} {q : SeqRegs} {s : State}
    (hbody : IgnoresControl body) (hacc : ∀ u, acceptedBody i u = endOperation (outcome (body u).out.rng) (body u))
    (hne : i ≠ .nop) (hidle : q.state = .idle) (hready : readyFor i s = true) (e : ErrCode) (d : Bool) :
    exec i (withControl q e d s) = .next (withControl q (outcome (body s).out.rng) true (body s)) := by
  rw [exec_accepted hne hidle (by rw [readyFor_withControl, hready]), accept_withControl, hacc, hbody,
    endOperation_withControl hidle, withControl_out]

theorem exec_compt_withControl {q : SeqRegs} {s : State} (hidle : q.state = .idle) (hready : readyFor .compt s = true)
    (e : ErrCode) (d : Bool) : exec .compt (withControl q e d s) =
      .next (withControl q (rangeOutcome ((tempBody s).out.rng.getLsbD 0)) true (tempBody s)) :=
  exec_withControl (outcome := fun rng => rangeOutcome (rng.getLsbD 0)) tempBody_ignoresControl (fun _ => rfl) (by decide) hidle hready e d

theorem exec_compp_withControl {q : SeqRegs} {s : State} (hidle : q.state = .idle) (hready : readyFor .compp s = true)
    (e : ErrCode) (d : Bool) : exec .compp (withControl q e d s) =
      .next (withControl q (rangeOutcome ((pressBody s).out.rng.getLsbD 1)) true (pressBody s)) :=
  exec_withControl (outcome := fun rng => rangeOutcome (rng.getLsbD 1)) pressBody_ignoresControl (fun _ => rfl) (by decide) hidle hready e d

theorem exec_comph_withControl {q : SeqRegs} {s : State} (hidle : q.state = .idle) (hready : readyFor .comph s = true)
    (e : ErrCode) (d : Bool) : exec .comph (withControl q e d s) =
      .next (withControl q (rangeOutcome ((humBody s).out.rng.getLsbD 2)) true (humBody s)) :=
  exec_withControl (outcome := fun rng => rangeOutcome (rng.getLsbD 2)) humBody_ignoresControl (fun _ => rfl) (by decide) hidle hready e d

theorem exec_compg_withControl {q : SeqRegs} {s : State} (hidle : q.state = .idle) (hready : readyFor .compg s = true)
    (e : ErrCode) (d : Bool) : exec .compg (withControl q e d s) =
      .next (withControl q .ok true (gasBody s)) :=
  exec_withControl (outcome := fun _ => .ok) gasBody_ignoresControl (fun _ => rfl) (by decide) hidle hready e d

/-- The end of a cycle: all four functions on the decoded sample, and the sequencer back in `Idle` (R222). -/
theorem cycleFinish_eq (s : State) (hrun : s.seq.state ≠ .idle) :
    cycleFinish s = { withControl ⟨.idle, 0, s.seq.polls⟩ (cycleOutcome (compAll (decodeSample s)).out.rng) true
      (compAll (decodeSample s)) with outValid := true } := by
  have hseq : (compAll (decodeSample s)).seq = s.seq := by simp [compAll]
  rw [cycleFinish, endOperation_running _ _ (by simpa [hseq] using hrun), hseq]
  rfl

theorem microStep_dataReady_one {s : State} (fails : Bool) (hst : s.seq.state = .dataReady) (hstep : s.seq.step = 1) :
    microStep fails s = .next (cycleFinish s) := by
  simp [microStep, dataReadyStep, hst, hstep]

/-- Settles O37: both sides are the four bodies on the decoded sample; they differ in the control part and `OUT.valid`. -/
theorem dataReadyAgreesWithTheHostSequence : Obligations.DataReadyAgreesWithTheHostSequence := by
  intro s fails hst hstep hcal
  have hreadyT : readyFor .compt (decodeSample s) = true := by simp [readyFor, needsCalRaw, hcal]
  have hreadyP : readyFor .compp (tempBody (decodeSample s)) = true := by simp [readyFor, needsCalRawTfine, hcal]
  have hreadyH : readyFor .comph (pressBody (tempBody (decodeSample s))) = true := by
    simp [readyFor, needsCalRawTfine, hcal]
  have hreadyG : readyFor .compg (humBody (pressBody (tempBody (decodeSample s)))) = true := by
    simp [readyFor, needsCalRaw, hcal]
  refine ⟨_, withControl ⟨.idle, 0, s.seq.polls⟩ s.err s.done (decodeSample s), _, _, _, _,
    microStep_dataReady_one fails hst hstep, rfl, exec_compt_withControl rfl hreadyT _ _, exec_compp_withControl rfl hreadyP _ _,
    exec_comph_withControl rfl hreadyH _ _, exec_compg_withControl rfl hreadyG _ _, rfl, rfl, rfl, ?_⟩
  rw [cycleFinish_eq s (by simp [hst]), cycleOutcome_eq]
  rfl

end Sys2Proof.Machine
end

section
/-! PROOFS. The heater duration code: its closed form (R194, R196), what a code stands for (R195), and its round trips, order and
image (R197, R198). -/

namespace Sys2Proof.Machine

/-! ### Factors and mantissas -/

/-- The code of factor `f` and mantissa `m` (R194). -/
def durCode (f m : Nat) : Byte := BitVec.ofNat 8 (m + 64 * f)

/-- The pairs of a factor and a mantissa that the encoder produces (R197): after a division the mantissa is at least 16, because
the value before it was above 63. -/
structure IsDurCode (f m : Nat) : Prop where
  factor_le : f ≤ 3
  mantissa_le : m ≤ 63
  mantissa_ge : f = 0 ∨ 16 ≤ m

theorem toNat_durCode {f m : Nat} (hf : f ≤ 3) (hm : m ≤ 63) : (durCode f m).toNat = m + 64 * f := by
  rw [durCode, BitVec.toNat_ofNat]
  omega

/-- Every byte is the code of its two upper and its six lower bits. -/
theorem durCode_div_mod (c : Byte) : durCode (c.toNat / 64) (c.toNat % 64) = c := by
  have hc := c.isLt
  apply BitVec.eq_of_toNat_eq
  rw [toNat_durCode (by omega) (by omega)]
  omega

theorem toNat_factor_durCode {f m : Nat} (hf : f ≤ 3) (hm : m ≤ 63) : ((durCode f m).extractLsb' 6 2).toNat = f := by
  rw [toNat_extractLsb'_eq_div_mod, toNat_durCode hf hm]
  omega

theorem toNat_mantissa_durCode {f m : Nat} (hf : f ≤ 3) (hm : m ≤ 63) : ((durCode f m).extractLsb' 0 6).toNat = m := by
  rw [toNat_extractLsb'_eq_div_mod, toNat_durCode hf hm]
  omega

/-- R195 for a code given by its parts. -/
theorem durDecode_durCode {f m : Nat} (hf : f ≤ 3) (hm : m ≤ 63) : durDecode (durCode f m) = m * 4 ^ f := by
  rw [durDecode, toNat_factor_durCode hf hm, toNat_mantissa_durCode hf hm]

/-! ### The encoder -/

/-- R196: the loop stops at the least `f` for which `d / 4 ^ f` fits six bits, and its divisions are one floor division. -/
theorem heatDurLoop_eq {f fuel d : Nat} (factor : Nat) (hfuel : f ≤ fuel) (hfits : d / 4 ^ f ≤ 63)
    (hleast : ∀ g < f, 63 < d / 4 ^ g) : heatDurLoop fuel d factor = d / 4 ^ f + (factor + f) * 64 := by
  induction f generalizing fuel d factor with
  | zero =>
    have hd : ¬ 63 < d := by simpa using hfits
    cases fuel <;> simp [heatDurLoop, hd]
  | succ f ih =>
    have hdiv (g : Nat) : d / 4 / 4 ^ g = d / 4 ^ (g + 1) := by rw [Nat.div_div_eq_div_mul, pow_succ']
    have hd : 63 < d := by simpa using hleast 0 f.succ_pos
    obtain ⟨fuel, rfl⟩ : ∃ n, fuel = n + 1 := ⟨fuel - 1, by omega⟩
    rw [heatDurLoop, if_pos hd, ih (factor + 1) (by omega) (by rwa [hdiv])
      (fun g hg => by rw [hdiv]; exact hleast (g + 1) (by omega)), hdiv]
    omega

/-- A value with mantissa at least 16 after `f` divisions was above 63 before each of them. -/
theorem lt_div_four_pow {d f g : Nat} (hm : 16 ≤ d / 4 ^ f) (hg : g < f) : 63 < d / 4 ^ g := by
  obtain ⟨k, rfl⟩ : ∃ k, f = g + (k + 1) := ⟨f - g - 1, by omega⟩
  have hdiv : d / 4 ^ (g + (k + 1)) = d / 4 ^ g / 4 / 4 ^ k := by
    rw [Nat.div_div_eq_div_mul, Nat.div_div_eq_div_mul, pow_add, pow_succ']
  have hle := Nat.div_le_self (d / 4 ^ g / 4) (4 ^ k)
  omega

/-- R194: from 4032 up the code is `0xFF`, factor 3 and mantissa 63. -/
theorem heatDur_of_le {d : Nat} (h : 4032 ≤ d) : heatDur d = durCode 3 63 := if_pos h

/-- R196 with the factor given. The durations `4032 .. 4095` saturate to the code that the loop would give them. -/
theorem heatDur_of_isDurCode {d f : Nat} (h : IsDurCode f (d / 4 ^ f)) : heatDur d = durCode f (d / 4 ^ f) := by
  obtain ⟨hf, hfits, hge⟩ := h
  by_cases hsat : 4032 ≤ d
  · have hf3 : f = 3 := by
      by_contra hne
      have hpow : (4 : Nat) ^ f ≤ 4 ^ 2 := Nat.pow_le_pow_right (by decide) (by omega)
      have hle := Nat.div_le_div_left (a := d) hpow (by positivity)
      omega
    subst hf3
    rw [heatDur_of_le hsat, show d / 4 ^ 3 = 63 by omega]
  · have hleast : ∀ g < f, 63 < d / 4 ^ g := fun g hg => lt_div_four_pow (hge.resolve_left (by omega)) hg
    rw [heatDur, if_neg hsat, heatDurLoop_eq 0 (by omega) hfits hleast, durCode]
    congr 1
    omega

/-- R196: the factor of each band of durations. -/
theorem exists_isDurCode {d : Nat} (h : d < 4032) : ∃ f, IsDurCode f (d / 4 ^ f) := by
  by_cases h0 : d ≤ 63
  · exact ⟨0, by omega, by omega, .inl rfl⟩
  by_cases h1 : d ≤ 255
  · exact ⟨1, by omega, by omega, .inr (by omega)⟩
  by_cases h2 : d ≤ 1023
  · exact ⟨2, by omega, by omega, .inr (by omega)⟩
  · exact ⟨3, by omega, by omega, .inr (by omega)⟩

/-- The closed form of R196, saturation included. -/
theorem heatDur_eq (d : Nat) :
    heatDur d = BitVec.ofNat 8 (if d ≤ 63 then d else if d ≤ 255 then d / 4 + 64 else if d ≤ 1023 then d / 16 + 128
      else if d ≤ 4031 then d / 64 + 192 else 255) := by
  split_ifs with h0 h1 h2 h3
  · simpa [durCode] using heatDur_of_isDurCode (d := d) (f := 0) ⟨by omega, by omega, .inl rfl⟩
  · exact heatDur_of_isDurCode (d := d) (f := 1) ⟨by omega, by omega, .inr (by omega)⟩
  · exact heatDur_of_isDurCode (d := d) (f := 2) ⟨by omega, by omega, .inr (by omega)⟩
  · exact heatDur_of_isDurCode (d := d) (f := 3) ⟨by omega, by omega, .inr (by omega)⟩
  · exact heatDur_of_le (by omega)

/-- Settles O25: the accepted operation writes `heatDur`, whose closed form is `heatDur_eq`. -/
theorem heatdComputesTheDurationCode : Obligations.HeatdComputesTheDurationCode := by
  intro s hidle d code
  have hcode : heatDur d = BitVec.ofNat 8 code := heatDur_eq d
  rw [exec_accepted (by decide) hidle rfl, ← hcode]
  exact congrArg _ (endOperation_idle .ok (writeGasWait (accept s)) hidle)

/-! ### Round trips (R198) -/

/-- R198 (b): the duration of a code is encoded by that code. -/
theorem heatDur_mul_pow {f m : Nat} (h : IsDurCode f m) : heatDur (m * 4 ^ f) = durCode f m := by
  have hm : m * 4 ^ f / 4 ^ f = m := Nat.mul_div_cancel m (by positivity)
  rw [heatDur_of_isDurCode (hm.symm ▸ h), hm]

/-- Every duration is encoded by a factor and a mantissa whose duration is not above it (R198 (a)). Only for the code of
saturation is the next duration of the same factor not above the encoded one. -/
theorem exists_heatDur_eq (d : Nat) : ∃ f m, IsDurCode f m ∧ heatDur d = durCode f m ∧ m * 4 ^ f ≤ d ∧
    (d < m * 4 ^ f + 4 ^ f ∨ (f = 3 ∧ m = 63)) := by
  by_cases hd : d < 4032
  · obtain ⟨f, hcode⟩ := exists_isDurCode hd
    exact ⟨f, d / 4 ^ f, hcode, heatDur_of_isDurCode hcode, Nat.div_mul_le_self _ _,
      .inl (Nat.lt_div_mul_add (by positivity))⟩
  · exact ⟨3, 63, ⟨le_rfl, le_rfl, .inr (by decide)⟩, heatDur_of_le (by omega), by omega, .inr ⟨rfl, rfl⟩⟩

/-- A smaller factor stands for a smaller duration: the mantissa ranges `.. 63` and `16 ..` do not overlap across factors. -/
theorem mul_pow_add_le_of_factor_lt {f m f' m' : Nat} (h : IsDurCode f m) (h' : IsDurCode f' m') (hlt : f < f') :
    m * 4 ^ f + 4 ^ f ≤ m' * 4 ^ f' :=
  calc m * 4 ^ f + 4 ^ f = (m + 1) * 4 ^ f := (Nat.succ_mul m _).symm
    _ ≤ 64 * 4 ^ f := Nat.mul_le_mul_right _ (Nat.succ_le_succ h.mantissa_le)
    _ = 16 * 4 ^ (f + 1) := by ring
    _ ≤ 16 * 4 ^ f' := Nat.mul_le_mul_left _ (Nat.pow_le_pow_right (by decide) hlt)
    _ ≤ m' * 4 ^ f' := Nat.mul_le_mul_right _ (h'.mantissa_ge.resolve_left (by omega))

/-- Encoding rounds down to the greatest duration that has a code. -/
theorem mul_pow_le_durDecode_heatDur {d f m : Nat} (h : IsDurCode f m) (hle : m * 4 ^ f ≤ d) :
    m * 4 ^ f ≤ durDecode (heatDur d) := by
  obtain ⟨f', m', hcode, heq, -, hnext⟩ := exists_heatDur_eq d
  rw [heq, durDecode_durCode hcode.factor_le hcode.mantissa_le]
  have hf := h.factor_le
  obtain hlt | rfl | hgt := lt_trichotomy f f'
  · exact (Nat.le_add_right _ _).trans (mul_pow_add_le_of_factor_lt h hcode hlt)
  · refine Nat.mul_le_mul_right _ ?_
    obtain hd | ⟨-, rfl⟩ := hnext
    · rw [← Nat.succ_mul] at hd
      exact Nat.lt_succ_iff.1 (Nat.lt_of_mul_lt_mul_right (hle.trans_lt hd))
    · exact h.mantissa_le
  · have habove := mul_pow_add_le_of_factor_lt hcode h hgt
    omega

/-- R198 (d). -/
theorem durDecode_heatDur_mono {d₁ d₂ : Nat} (h : d₁ ≤ d₂) : durDecode (heatDur d₁) ≤ durDecode (heatDur d₂) := by
  obtain ⟨f, m, hcode, heq, hle, -⟩ := exists_heatDur_eq d₁
  rw [heq, durDecode_durCode hcode.factor_le hcode.mantissa_le]
  exact mul_pow_le_durDecode_heatDur hcode (hle.trans h)

/-- R197: the parts of a byte are such a pair outside the three ranges only. -/
theorem isDurCode_iff (c : Byte) : IsDurCode (c.toNat / 64) (c.toNat % 64) ↔
    ¬((0x40 ≤ c.toNat ∧ c.toNat ≤ 0x4F) ∨ (0x80 ≤ c.toNat ∧ c.toNat ≤ 0x8F) ∨ (0xC0 ≤ c.toNat ∧ c.toNat ≤ 0xCF)) := by
  have hc := c.isLt
  constructor
  · rintro ⟨-, -, hge⟩
    omega
  · intro h
    exact ⟨by omega, by omega, by omega⟩

/-- The image of the encoder (R197). -/
theorem exists_heatDur_eq_iff (c : Byte) : (∃ d, heatDur d = c) ↔ IsDurCode (c.toNat / 64) (c.toNat % 64) := by
  constructor
  · rintro ⟨d, rfl⟩
    obtain ⟨f, m, hcode, heq, -⟩ := exists_heatDur_eq d
    have hm := hcode.mantissa_le
    rw [heq, toNat_durCode hcode.factor_le hm, show (m + 64 * f) / 64 = f by omega, show (m + 64 * f) % 64 = m by omega]
    exact hcode
  · exact fun h => ⟨_, (heatDur_mul_pow h).trans (durCode_div_mod c)⟩

/-- Settles O60: with `f` the factor and `d / 4 ^ f` the mantissa, (a) and (c) are division with remainder by `4 ^ f`. -/
theorem durationCodeRoundTrips : Obligations.DurationCodeRoundTrips := by
  refine ⟨fun d hd => ?_, fun _ _ => durDecode_heatDur_mono, fun _ => heatDur_of_le, by decide,
    fun c => (exists_heatDur_eq_iff c).trans (isDurCode_iff c)⟩
  obtain ⟨f, hcode⟩ := exists_isDurCode hd
  have hsplit := Nat.div_add_mod' d (4 ^ f)
  have hrem : d % 4 ^ f < 4 ^ f := Nat.mod_lt _ (by positivity)
  simp only [heatDur_of_isDurCode hcode, durDecode_durCode hcode.factor_le hcode.mantissa_le,
    toNat_factor_durCode hcode.factor_le hcode.mantissa_le]
  exact ⟨by omega, by omega, heatDur_mul_pow hcode, by omega⟩

end Sys2Proof.Machine
end

section
/-! PROOFS. The sequencer: `Busy` while it runs (R224), and the micro-steps that end a sequence without a transaction (R206,
R220). -/

namespace Sys2Proof.Machine

/-- Settles O17: every operation but `NOP` is one acceptance, which a running sequence refuses. -/
theorem busyRejectsEveryOperationButNop : Obligations.BusyRejectsEveryOperationButNop := by
  intro i s hne hrun
  rw [exec_eq_acceptOr i s hne, acceptOr_busy _ _ s hrun]
  rfl

theorem microStep_init_nine {s : State} (fails : Bool) (hst : s.seq.state = .init) (hstep : s.seq.step = 9) :
    microStep fails s = .next (initFinish s) := by
  simp [microStep, initStep, hst, hstep]

/-- The end of `Init`: the decoded coefficients, valid, and the sequencer back in `Idle` (R206). -/
theorem initFinish_eq (s : State) (hrun : s.seq.state ≠ .idle) :
    initFinish s = { s with
      cal := calDecode Config.calLayout s.calbuf s.auxbuf
      calValid := true
      err := .ok
      done := true
      seq := ⟨.idle, 0, s.seq.polls⟩ } :=
  endOperation_running .ok _ hrun

/-- Settles O30: the micro-step of (`Init`, 9) is `initFinish` for either value of `fails`. -/
theorem initFinishesWithTheDecode : Obligations.InitFinishesWithTheDecode := by
  intro s fails hst hstep
  rw [microStep_init_nine fails hst hstep, initFinish_eq s (by simp [hst])]

theorem microStep_timedOut_zero {s : State} (fails : Bool) (hst : s.seq.state = .timedOut) (hstep : s.seq.step = 0) :
    microStep fails s = .next (endOperation .noNewData s) := by
  simp [microStep, timedOutStep, hst, hstep]

/-- `TimedOut` has one micro-step, step 0 (R220). -/
theorem ControlInv.step_of_timedOut {s : State} (hinv : ControlInv s) (hst : s.seq.state = .timedOut) : s.seq.step = 0 := by
  have hpos := hinv.position
  rw [hst] at hpos
  exact BitVec.eq_of_toNat_eq (of_decide_eq_true hpos)

@[simp] theorem heaterCodes_rej (s : State) : (heaterCodes s).rej = s.rej := by
  unfold heaterCodes
  split <;> simp

/-- The acceptance of `MEASURE` leaves a pending rejection alone (R207). -/
@[simp] theorem measureBody_rej (s : State) : (measureBody s).rej = s.rej := by simp [measureBody]

/-- Settles O35: a cycle runs with nothing valid but the coefficients, which is what the next `MEASURE` needs. -/
theorem timedOutEndsWithNoNewData : Obligations.TimedOutEndsWithNoNewData := by
  intro s fails hinv hst
  have hrun : s.seq.state ≠ .idle := by simp [hst]
  have hcal : s.calValid = true := hinv.cycleValid (by simp [State.inCycle, hst])
  obtain ⟨hraw, htfine, hout⟩ := hinv.nothingValid ((State.busy_eq_true s).2 hrun)
  refine ⟨_, ?_, rfl, hinv.pollsSpent hst, hraw, htfine, hout, _, exec_accepted (by decide) rfl hcal, rfl,
    measureBody_rej _⟩
  rw [microStep_timedOut_zero fails hst (hinv.step_of_timedOut hst), endOperation_running _ s hrun]

end Sys2Proof.Machine
end

section
/-! PROOFS. The housekeeping operations `NOP` and `CLRERR` (R244, R245). `CLRERR` needs no valid flag, so in `Idle` it is always
accepted, and while a sequence runs it is one of the operations rejected `Busy`. -/

namespace Sys2Proof.Machine

/-- `NOP` is not an acceptance: it touches neither the outcome nor the rejection (R244). -/
theorem exec_nop (s : State) : exec .nop s = .next s := rfl

/-- The acceptance itself leaves no mark: `CLRERR` overwrites both registers it sets (R245, R247). -/
theorem clearOutcome_accept (s : State) : clearOutcome (accept s) = clearOutcome s := rfl

theorem exec_clrerr_idle {s : State} (hidle : s.seq.state = .idle) : exec .clrerr s = .next (clearOutcome s) := by
  rw [exec_accepted (by decide) hidle rfl]
  exact congrArg _ (clearOutcome_accept s)

/-- Settles O16: outside `Idle`, `CLRERR` is covered by the common `Busy` rejection of every operation but `NOP`. -/
theorem housekeepingOperations : Obligations.HousekeepingOperations := fun s =>
  ⟨exec_nop s, exec_clrerr_idle, busyRejectsEveryOperationButNop .clrerr s (by decide)⟩

end Sys2Proof.Machine
end

section
/-! PROOFS. The encodings in both directions: command words (R92), host register numbers (R96) and the words of host actions
(R94); and that a scheduled command word runs its operation (R242). -/

namespace Sys2Proof.Machine

/-! ### Command words (R92) -/

/-- The search of the decoder finds each operation under its own code (R92). -/
theorem decodeByte_encode (i : Instr) : decodeByte (encode i) = some i := by cases i <;> decide

theorem toNat_encodeCommand (i : Instr) : (encodeCommand i).toNat = (Config.commandCode i).toNat := by
  have hcode := (Config.commandCode i).isLt
  rw [encodeCommand, encode, BitVec.toNat_setWidth, Nat.mod_eq_of_lt (by omega)]

theorem decodeCommand_encodeCommand (i : Instr) : decodeCommand (encodeCommand i) = .ok i := by
  have hcode := (Config.commandCode i).isLt
  have hle : (encodeCommand i).toNat ≤ 0xFF := by rw [toNat_encodeCommand]; omega
  have hbyte : (encodeCommand i).setWidth 8 = encode i := by
    rw [encodeCommand, BitVec.setWidth_setWidth_of_le _ (by decide), BitVec.setWidth_eq]
  rw [decodeCommand, if_pos hle, hbyte, decodeByte_encode]

/-- Settles O1: a word that decodes has the number of its operation's code, all 32 bits of it; and each code decodes. -/
theorem commandWordsDecodeExactly : Obligations.CommandWordsDecodeExactly := by
  refine fun data i => ⟨fun hdec => BitVec.eq_of_toNat_eq ?_, ?_⟩
  · rw [toNat_of_decodeCommand hdec, toNat_encodeCommand]
  · rintro rfl
    exact decodeCommand_encodeCommand i

/-- Settles O2: four words are encodings (R92), the other two are none of the twelve codes (R93). -/
theorem sampleCommandWordsDecode : Obligations.SampleCommandWordsDecode :=
  ⟨decodeCommand_encodeCommand .measure, decodeCommand_encodeCommand .flddec, decodeCommand_encodeCommand .comph,
    decodeCommand_encodeCommand .heatd, decodeCommand_of_reserved (by decide), decodeCommand_of_reserved (by decide)⟩

theorem runInput_command {data : Word} {i : Instr} (s : State) (hdec : decodeCommand data = .ok i) :
    runInput (.host (.write 0 data)) s = exec i s := by
  simp only [runInput, hostAction, hostRegNumber_cmd, if_true, commandWrite, hdec]

/-- Settles O9: number 0 is `CMD`, so the scheduled write runs the operation that its word decodes to. -/
theorem stepRunsTheDecodedCommand : Obligations.StepRunsTheDecodedCommand := by
  intro s data rest i hin hdec _
  rw [step_input s _ rest hin, runInput_command _ hdec]

/-! ### Host register numbers (R96) -/

/-- No two registers have one number (R96). -/
theorem hostRegNumber_injective : Function.Injective Config.hostRegNumber := by
  have hnodup : (HostReg.all.map fun r => (Config.hostRegNumber r).toNat).Nodup := by
    rw [map_hostRegNumber_all]
    decide
  intro r r' h
  exact List.inj_on_of_nodup_map hnodup (HostReg.mem_all r) (HostReg.mem_all r') (congrArg BitVec.toNat h)

theorem decodeHostReg_hostRegNumber (r : HostReg) : decodeHostReg (Config.hostRegNumber r) = some r := by
  have hfound : (decodeHostReg (Config.hostRegNumber r)).isSome :=
    List.find?_isSome.2 ⟨r, HostReg.mem_all r, by simp⟩
  obtain ⟨r', hr'⟩ := Option.isSome_iff_exists.1 hfound
  rw [hr', hostRegNumber_injective (hostRegNumber_of_decodeHostReg hr')]

/-! ### The words of host actions (R94) -/

/-- The three fields of a 41-bit word: `rw`, the register number, the data. -/
theorem hostWord_fields (w : BitVec 41) : w.extractLsb' 40 1 ++ w.extractLsb' 32 8 ++ w.extractLsb' 0 32 = w := by
  have hw := w.isLt
  apply BitVec.eq_of_toNat_eq
  simp only [toNat_append_eq_add, toNat_extractLsb'_eq_div_mod]
  omega

/-- The fields of a word written from its fields. -/
theorem extract_hostWord (rw : BitVec 1) (hr : BitVec 8) (data : Word) :
    (rw ++ hr ++ data).extractLsb' 40 1 = rw ∧ (rw ++ hr ++ data).extractLsb' 32 8 = hr ∧
      (rw ++ hr ++ data).extractLsb' 0 32 = data := by
  have hrw := rw.isLt
  have hhr := hr.isLt
  have hdata := data.isLt
  refine ⟨BitVec.eq_of_toNat_eq ?_, BitVec.eq_of_toNat_eq ?_, BitVec.eq_of_toNat_eq ?_⟩
  all_goals
    simp only [toNat_append_eq_add, toNat_extractLsb'_eq_div_mod]
    omega

theorem decodeHostWord_encodeHostWord (a : HostAction) : decodeHostWord (encodeHostWord a) = some a := by
  cases a with
  | read hr =>
    obtain ⟨hrw, hhr, hdata⟩ := extract_hostWord 0#1 hr 0#32
    simp [encodeHostWord, decodeHostWord, hrw, hhr, hdata]
  | write hr data =>
    obtain ⟨hrw, hhr, hdata⟩ := extract_hostWord 1#1 hr data
    simp [encodeHostWord, decodeHostWord, hrw, hhr, hdata]

theorem encodeHostWord_of_decodeHostWord {w : BitVec 41} {a : HostAction} (h : decodeHostWord w = some a) :
    encodeHostWord a = w := by
  have hfields := hostWord_fields w
  unfold decodeHostWord at h
  split at h
  case isTrue hrw =>
    cases h
    rwa [hrw] at hfields
  case isFalse hrw =>
    split at h
    case isTrue hdata =>
      cases h
      rwa [BitVec.eq_zero_or_eq_one (w.extractLsb' 40 1) |>.resolve_right hrw, hdata] at hfields
    case isFalse => cases h

/-- Settles O3: the registers' numbers are distinct and all listed; a word of R94 is its three fields. -/
theorem hostEncodingsRoundTrip : Obligations.HostEncodingsRoundTrip :=
  ⟨decodeHostReg_hostRegNumber, fun _ _ => hostRegNumber_of_decodeHostReg, decodeHostWord_encodeHostWord,
    fun _ _ => encodeHostWord_of_decodeHostWord⟩

end Sys2Proof.Machine
end

section
/-! PROOFS. What a step can do to the registers that hold data, said once; from it, the bounds of `T_FINE` (R164), the register
formats (R23, R34, R35) and the configuration while a sequence runs (R301). -/

namespace Sys2Proof.Machine

/-! ### The registers that hold data, and the rejection -/

/-- The registers that computations read and write, with their valid flags (R22 to R34). -/
structure DataRegs where
  cfg : CfgRegs
  cal : CalRegs
  calValid : Bool
  raw : RawRegs
  rawValid : Bool
  tFine : BitVec 32
  tfineValid : Bool
  out : OutRegs
  outValid : Bool

/-- The data registers of a state. -/
def State.data (s : State) : DataRegs :=
  ⟨s.cfg, s.cal, s.calValid, s.raw, s.rawValid, s.tFine, s.tfineValid, s.out, s.outValid⟩

/-- What the sequencer's bookkeeping leaves alone beside the data registers: the rejection (R246) and the schedule. -/
def State.aside (s : State) : Bool × RejCause × List Input := (s.rej, s.rejc, s.inputs)

/-- Neither the data registers nor the rejection nor the schedule differ. -/
def SameData (s t : State) : Prop := t.data = s.data ∧ t.aside = s.aside

theorem SameData.trans {s t u : State} (h : SameData s t) (h' : SameData t u) : SameData s u :=
  ⟨h'.1.trans h.1, h'.2.trans h.2⟩

theorem sameData_endOperation (e : ErrCode) (s : State) : SameData s (endOperation e s) := ⟨rfl, rfl⟩

/-- Loading a byte buffer and going on (R205, R221). -/
theorem sameData_load (st : SeqState) (n : BitVec 4) (s : State) (c : Vector Byte 41) (a : Vector Byte 3) (f : Vector Byte 15) :
    SameData s (goto st n { s with calbuf := c, auxbuf := a, fldbuf := f }) := ⟨rfl, rfl⟩

/-! ### One micro-step -/

theorem readStep_sameData {k : List Byte → State → State} (s : State) (f : Bool) (addr : Byte) (n : Nat)
    (hk : ∀ bs u, SameData u (k bs u)) : SameData s (readStep s f addr n k) := by
  obtain heq | heq := readStep_cases s f addr n k <;> rw [heq]
  · exact ⟨rfl, rfl⟩
  · exact SameData.trans ⟨rfl, rfl⟩ (hk _ _)

theorem writeStep_sameData {k : State → State} (s : State) (f : Bool) (addr b : Byte)
    (hk : ∀ u, SameData u (k u)) : SameData s (writeStep s f addr b k) := by
  obtain heq | heq := writeStep_cases s f addr b k <;> rw [heq]
  · exact ⟨rfl, rfl⟩
  · exact SameData.trans ⟨rfl, rfl⟩ (hk _)

theorem waitStep_sameData (bound : Nat) (n : BitVec 4) (s : State) : SameData s (waitStep bound n s) := by
  unfold waitStep
  split <;> exact ⟨rfl, rfl⟩

theorem initPolled_sameData (b : Byte) (s : State) : SameData s (initPolled b s) := by
  simp only [initPolled]
  split
  · exact ⟨rfl, rfl⟩
  · split <;> exact ⟨rfl, rfl⟩

theorem initIdentified_sameData (b : Byte) (s : State) : SameData s (initIdentified b s) := by
  unfold initIdentified
  split <;> exact ⟨rfl, rfl⟩

theorem polled_sameData (b : Byte) (s : State) : SameData s (polled b s) := by
  simp only [polled]
  split
  · exact ⟨rfl, rfl⟩
  · split <;> exact ⟨rfl, rfl⟩

theorem initStep_sameData {f : Bool} {s t : State} (h : initStep f s = .next t) :
    SameData s t ∨ (s.seq.step = 9 ∧ t = initFinish s) := by
  obtain ⟨-, rfl⟩ | ⟨-, rfl⟩ | ⟨-, rfl⟩ | ⟨-, rfl⟩ | ⟨-, rfl⟩ | ⟨-, rfl⟩ | ⟨-, rfl⟩ | ⟨-, rfl⟩ | ⟨-, rfl⟩ | hlast :=
    initStep_cases h
  · exact .inl (writeStep_sameData _ _ _ _ fun _ => ⟨rfl, rfl⟩)
  · exact .inl (readStep_sameData _ _ _ _ fun _ _ => initPolled_sameData _ _)
  · exact .inl (waitStep_sameData _ _ _)
  · exact .inl (readStep_sameData _ _ _ _ fun _ _ => initIdentified_sameData _ _)
  iterate 5 exact .inl (readStep_sameData _ _ _ _ fun _ u => sameData_load _ _ u _ _ _)
  · exact .inr hlast

theorem configuringStep_sameData {f : Bool} {s t : State} (h : configuringStep f s = .next t) : SameData s t := by
  obtain ⟨-, rfl⟩ | ⟨-, rfl⟩ | ⟨-, rfl⟩ | ⟨-, -, rfl⟩ | ⟨-, -, rfl⟩ | ⟨-, rfl⟩ | ⟨-, rfl⟩ := configuringStep_cases h
  all_goals exact writeStep_sameData _ _ _ _ fun _ => ⟨rfl, rfl⟩

/-- Two micro-steps compute: the last of `Init` and the last of `DataReady` (R203, R206, R222). -/
theorem microStep_data {f : Bool} {s t : State} (h : microStep f s = .next t) :
    SameData s t ∨ (s.seq.state = .init ∧ s.seq.step = 9 ∧ t = initFinish s) ∨
      (s.seq.state = .dataReady ∧ s.seq.step = 1 ∧ t = cycleFinish s) := by
  obtain ⟨-, rfl⟩ | ⟨hinit, h⟩ | ⟨-, h⟩ | ⟨-, -, rfl⟩ | ⟨-, -, rfl⟩ | ⟨-, -, rfl⟩ | ⟨-, -, rfl⟩ | hlast | ⟨-, -, rfl⟩ :=
    microStep_cases h
  · exact .inl ⟨rfl, rfl⟩
  · exact (initStep_sameData h).imp_right fun hlast => .inl ⟨hinit, hlast⟩
  · exact .inl (configuringStep_sameData h)
  · exact .inl (writeStep_sameData _ _ _ _ fun _ => ⟨rfl, rfl⟩)
  · exact .inl (readStep_sameData _ _ _ _ fun _ _ => polled_sameData _ _)
  · exact .inl (waitStep_sameData _ _ _)
  · exact .inl (readStep_sameData _ _ _ _ fun _ u => sameData_load _ _ u _ _ _)
  · exact .inr (.inr hlast)
  · exact .inl (sameData_endOperation _ _)

/-! ### One step -/

/-- What a step can do to the data registers: nothing, take a register write, run an accepted operation, reset them, or compute in
the last micro-step of `Init` or of a cycle. Each acts on the state with an event taken off the schedule or not. -/
inductive DataStep (s t : State) : Prop where
  | same (h : t.data = s.data)
  | written (data : Word) (rest : List Input) (r : HostReg) (hidle : s.seq.state = .idle) (hlegal : legalValue data r = true)
      (h : t = writeReg data { s with inputs := rest } r)
  | accepted (i : Instr) (rest : List Input) (hcmd : s.commandNext = some i) (hne : i ≠ .nop) (hidle : s.seq.state = .idle)
      (hready : readyFor i s = true) (h : t = acceptedBody i (accept { s with inputs := rest }))
  | reset (rest : List Input) (hreset : s.resetNext = true) (h : t = resetBlock { s with inputs := rest })
  | initEnd (rest : List Input) (hst : s.seq.state = .init) (hstep : s.seq.step = 9)
      (h : t = initFinish { s with inputs := rest })
  | cycleEnd (rest : List Input) (hst : s.seq.state = .dataReady) (hstep : s.seq.step = 1)
      (h : t = cycleFinish { s with inputs := rest })

/-- The valid flags that an operation needs do not depend on the schedule. -/
theorem readyFor_inputs (i : Instr) (s : State) (rest : List Input) : readyFor i { s with inputs := rest } = readyFor i s := by
  cases i <;> rfl

theorem hostAction_dataStep {a : HostAction} {rest : List Input} {s t : State} (hin : s.inputs = .host a :: rest)
    (h : hostAction a { s with inputs := rest } = .next t) : DataStep s t := by
  obtain ⟨hr, -, rfl⟩ | ⟨hr, data, -, -, rfl⟩ | ⟨data, -, -, rfl⟩ | ⟨data, i, rfl, hdec, hexec⟩ := hostAction_cases h
  · exact .same rfl
  · obtain ⟨c, -, heq⟩ | ⟨r, -, -, hidle, hlegal, heq⟩ := hostWrite_cases hr data { s with inputs := rest }
    · exact .same (heq ▸ rfl)
    · exact .written data rest r hidle hlegal heq
  · unfold rejectCommand
    split <;> exact .same rfl
  · obtain ⟨-, rfl⟩ | ⟨-, -, rfl⟩ | ⟨-, -, -, rfl⟩ | ⟨hne, hidle, hready, heq⟩ := exec_cases hexec
    iterate 3 exact .same rfl
    · rw [readyFor_inputs] at hready
      exact .accepted i rest (commandNext_of_inputs hin hdec) hne hidle hready heq

theorem microStep_dataStep {f : Bool} {rest : List Input} {s t : State} (h : microStep f { s with inputs := rest } = .next t) :
    DataStep s t := by
  obtain ⟨hdata, -⟩ | ⟨hst, hstep, heq⟩ | ⟨hst, hstep, heq⟩ := microStep_data h
  · exact .same hdata
  · exact .initEnd rest hst hstep heq
  · exact .cycleEnd rest hst hstep heq

theorem step_dataStep {s t : State} (h : step s = .next t) : DataStep s t := by
  obtain ⟨a, rest, hin, hact⟩ | ⟨f, rest, -, hmicro⟩ | ⟨a, v, rest, -, rfl⟩ | ⟨ms, rest, -, rfl⟩ | ⟨rest, hin, heq⟩ |
    ⟨b, -, -, -, rfl⟩ | ⟨f, -, hmicro⟩ := step_cases h
  · exact hostAction_dataStep hin hact
  · exact microStep_dataStep hmicro
  · exact .same rfl
  · exact .same rfl
  · exact .reset rest (resetNext_of_inputs hin) heq
  · exact .same rfl
  · exact microStep_dataStep (rest := s.inputs) hmicro

/-! ### The end of a cycle, register by register -/

/-- The end of a cycle leaves what the four computations leave on the decoded sample (R222). -/
@[simp] theorem cycleFinish_tFine (s : State) : (cycleFinish s).tFine = (tempBody (decodeSample s)).tFine := by
  simp [cycleFinish, compAll]

@[simp] theorem compAll_cfg (s : State) : (compAll s).cfg = s.cfg := by simp [compAll]

@[simp] theorem cycleFinish_cfg (s : State) : (cycleFinish s).cfg = s.cfg := by simp [cycleFinish]

/-! ### The configuration (R301) -/

/-- Settles O51: only register writes and accepted operations write `CFG`, and these need `Idle`. -/
theorem configurationStableWhileBusy : Obligations.ConfigurationStableWhileBusy := by
  intro s t hrun hreset h
  cases step_dataStep h with
  | same h => exact congrArg DataRegs.cfg h
  | written _ _ _ hidle => exact absurd hidle hrun
  | accepted _ _ _ _ hidle => exact absurd hidle hrun
  | reset _ hnext => simp [hreset] at hnext
  | initEnd rest _ _ heq => rw [heq]; rfl
  | cycleEnd rest _ _ heq => rw [heq, cycleFinish_cfg]

/-! ### The bounds of `T_FINE` (R164) -/

/-- The raw temperature code and the temperature coefficients lie in the ranges of their registers, so `T_FINE` does in R164's. -/
theorem tempBody_tfineInv (s : State) : TfineInv (tempBody s) := by
  have hraw := s.raw.temp.isLt
  have ht1 := s.cal.parT1.isLt
  have ht2 := BitVec.le_toInt s.cal.parT2
  have ht2' := BitVec.toInt_lt (x := s.cal.parT2)
  have ht3 := BitVec.le_toInt s.cal.parT3
  have ht3' := BitVec.toInt_lt (x := s.cal.parT3)
  obtain ⟨hlo, hhi⟩ := compT_tFine_bounds (raw := uval s.raw.temp) (c := tempCoefs s.cal) (by simp [uval])
    (by simp only [uval]; omega) (by simp [tempCoefs, uval]) (by simp only [tempCoefs, uval]; omega) (by simpa [tempCoefs, sval] using ht2)
    (by simp only [tempCoefs, sval]; omega) (by simpa [tempCoefs, sval] using ht3) (by simp only [tempCoefs, sval]; omega)
  have hval : (tempBody s).tFine.toInt = (compT (uval s.raw.temp) (tempCoefs s.cal)).1 :=
    sval_store32 _ (by omega) (by omega)
  exact ⟨by omega, by omega⟩

theorem TfineInv.of_eq {s t : State} (h : TfineInv s) (heq : t.tFine = s.tFine) : TfineInv t := by
  unfold TfineInv
  rwa [heq]

@[simp] theorem heaterCodes_tFine (s : State) : (heaterCodes s).tFine = s.tFine := by
  unfold heaterCodes
  split <;> simp

/-- Of the operations only `COMPT` writes `T_FINE` (R162). -/
theorem acceptedBody_tFine {i : Instr} (s : State) (h : i ≠ .compt) : (acceptedBody i s).tFine = s.tFine := by
  cases i with
  | compt => exact absurd rfl h
  | nop | clrerr => rfl
  | init => simp [acceptedBody, initBody]
  | measure => simp [acceptedBody, measureBody]
  | caldec => simp [acceptedBody, caldecBody]
  | flddec => simp [acceptedBody, flddecBody]
  | compp => simp [acceptedBody, comppBody]
  | comph => simp [acceptedBody, comphBody]
  | compg => simp [acceptedBody, compgBody]
  | heatr => simp [acceptedBody, heatrBody]
  | heatd => simp [acceptedBody, heatdBody]

theorem acceptedBody_tfineInv (i : Instr) {s : State} (h : TfineInv s) : TfineInv (acceptedBody i s) := by
  by_cases hi : i = .compt
  · subst hi
    exact (tempBody_tfineInv s).of_eq rfl
  · exact h.of_eq (acceptedBody_tFine s hi)

/-- Settles O42: `T_FINE` is written by the temperature function alone, whose values lie in the bounds for every sample. -/
theorem tfineBoundsKept : Obligations.TfineBoundsKept := by
  intro s t hinv h
  cases step_dataStep h with
  | same h => exact hinv.of_eq (congrArg DataRegs.tFine h)
  | written data rest r _ _ heq => exact hinv.of_eq (by rw [heq, writeReg_frame])
  | accepted i rest _ _ _ _ heq => exact heq ▸ acceptedBody_tfineInv i hinv
  | reset rest _ heq => exact TfineInv.of_eq (s := State.reset) ⟨by decide, by decide⟩ (by rw [heq]; rfl)
  | initEnd rest _ _ heq => exact hinv.of_eq (by rw [heq]; rfl)
  | cycleEnd rest _ _ heq => exact (tempBody_tfineInv _).of_eq (by rw [heq, cycleFinish_tFine])

/-! ### The register formats (R23, R34, R35) -/

theorem FormatInv.of_eq {s t : State} (h : FormatInv s) (hcfg : t.cfg = s.cfg) (hout : t.out = s.out) : FormatInv t := by
  constructor
  · rw [hcfg]; exact h.osT
  · rw [hcfg]; exact h.osP
  · rw [hcfg]; exact h.osH
  · rw [hout]; exact h.divisorFlag
  · rw [hout]; exact h.statusBits

/-- A legal oversampling code fits its three bits unchanged (R104). -/
theorem setWidth_three_le {data : Word} (h : data.toNat ≤ 5) : (data.setWidth 3).toNat ≤ 5 := by
  rw [BitVec.toNat_setWidth]
  omega

theorem writeReg_formatInv {data : Word} {r : HostReg} {s : State} (h : FormatInv s) (hlegal : legalValue data r = true) :
    FormatInv (writeReg data s r) := by
  cases r with
  | osT => exact { h with osT := setWidth_three_le (of_decide_eq_true hlegal) }
  | osP => exact { h with osP := setWidth_three_le (of_decide_eq_true hlegal) }
  | osH => exact { h with osH := setWidth_three_le (of_decide_eq_true hlegal) }
  | _ => exact { h with }

theorem getLsbD_setRng_of_ne {i j : Fin 4} (b : Bool) (rng : BitVec 4) (h : i ≠ j) :
    (setRng i b rng).getLsbD j.val = rng.getLsbD j.val := by
  rw [getLsbD_setRng, if_neg h]

/-- Writing another bit than 1 and 3 does not part these two (R35). -/
theorem divisorFlag_setRng {i : Fin 4} {b : Bool} {rng : BitVec 4} (h1 : i ≠ 1) (h3 : i ≠ 3)
    (h : rng.getLsbD 3 = true → rng.getLsbD 1 = true) (hset : (setRng i b rng).getLsbD 3 = true) :
    (setRng i b rng).getLsbD 1 = true :=
  (getLsbD_setRng_of_ne b rng h1).trans (h ((getLsbD_setRng_of_ne b rng h3).symm.trans hset))

theorem tempBody_formatInv {s : State} (h : FormatInv s) : FormatInv (tempBody s) :=
  { h with divisorFlag := divisorFlag_setRng (by decide) (by decide) h.divisorFlag }

theorem pressBody_formatInv {s : State} (h : FormatInv s) : FormatInv (pressBody s) := by
  rw [pressBody_eq]
  exact { h with divisorFlag := pressRng_divisor _ _ }

theorem humBody_formatInv {s : State} (h : FormatInv s) : FormatInv (humBody s) :=
  { h with divisorFlag := divisorFlag_setRng (by decide) (by decide) h.divisorFlag }

/-- A status byte has only the bits 7, 5 and 4 (R34). -/
theorem statusByte_unused (a b c : Bool) : statusByte a b c &&& 0x4F#8 = 0#8 := by
  revert a b c; decide

theorem gasBody_formatInv {s : State} (h : FormatInv s) : FormatInv (gasBody s) :=
  { h with statusBits := statusByte_unused _ _ _ }

theorem compAll_formatInv {s : State} (h : FormatInv s) : FormatInv (compAll s) :=
  gasBody_formatInv (humBody_formatInv (pressBody_formatInv (tempBody_formatInv h)))

/-- The acceptance of `INIT` and `MEASURE` clears `OUT.rng` (R204, R207). -/
theorem clearCycle_formatInv {s : State} (h : FormatInv s) : FormatInv (clearCycle s) :=
  { h with divisorFlag := fun h3 => by simp at h3 }

theorem heaterCodes_formatInv {s : State} (h : FormatInv s) : FormatInv (heaterCodes s) := by
  unfold heaterCodes
  split <;> exact { h with }

theorem acceptedBody_formatInv (i : Instr) {s : State} (h : FormatInv s) : FormatInv (acceptedBody i s) := by
  cases i with
  | init => exact (clearCycle_formatInv (s := { s with calValid := false }) { h with }).of_eq rfl rfl
  | measure => exact (heaterCodes_formatInv (clearCycle_formatInv h)).of_eq rfl rfl
  | compt => exact (tempBody_formatInv h).of_eq rfl rfl
  | compp => exact (pressBody_formatInv h).of_eq rfl rfl
  | comph => exact (humBody_formatInv h).of_eq rfl rfl
  | compg => exact (gasBody_formatInv h).of_eq rfl rfl
  | nop | clrerr | caldec | flddec | heatr | heatd => exact { h with }

/-- The reset state's formats (R54). -/
theorem formatInv_reset : FormatInv State.reset := ⟨by decide, by decide, by decide, by decide, by decide⟩

/-- Settles O41: only legal codes are stored, every computation keeps its bits of `OUT.rng`, and a status byte is three bits. -/
theorem registerFormatsKept : Obligations.RegisterFormatsKept := by
  intro s t hinv h
  cases step_dataStep h with
  | same h => exact hinv.of_eq (congrArg DataRegs.cfg h) (congrArg DataRegs.out h)
  | written data rest r _ hlegal heq => exact heq ▸ writeReg_formatInv (s := { s with inputs := rest }) { hinv with } hlegal
  | accepted i rest _ _ _ _ heq => exact heq ▸ acceptedBody_formatInv i (s := accept { s with inputs := rest }) { hinv with }
  | reset rest _ heq => exact formatInv_reset.of_eq (by rw [heq]; rfl) (by rw [heq]; rfl)
  | initEnd rest _ _ heq => exact hinv.of_eq (by rw [heq]; rfl) (by rw [heq]; rfl)
  | cycleEnd rest _ _ heq =>
    have hdecoded : FormatInv (decodeSample { s with inputs := rest }) := { hinv with }
    exact (compAll_formatInv hdecoded).of_eq (by rw [heq, cycleFinish_cfg, compAll_cfg]; rfl) (by rw [heq]; rfl)

end Sys2Proof.Machine
end

section
/-! PROOFS. The bus and the sensor's registers: what a step adds to the trace and does to the sensor (R60, R69), what is known of
the sensor after a transaction (R50, R63, R70), and that operations stay off the bus (R244, R245). -/

namespace Sys2Proof.Machine

/-! ### The transactions of R69 -/

theorem writeOk_ctrlHum (c : CfgRegs) : BusOp.writeOk Config.addrCtrlHum (ctrlHumByte c) = true := by
  simp only [ctrlHumByte]
  generalize c.osH = h
  revert h; decide

theorem writeOk_ctrlMeas_sleep (c : CfgRegs) :
    BusOp.writeOk Config.addrCtrlMeas (ctrlMeasByte c Config.modeSleep) = true := by
  simp only [ctrlMeasByte]
  generalize c.osT = t, c.osP = p
  revert t p; decide

theorem writeOk_ctrlMeas_forced (c : CfgRegs) :
    BusOp.writeOk Config.addrCtrlMeas (ctrlMeasByte c Config.modeForced) = true := by
  simp only [ctrlMeasByte]
  generalize c.osT = t, c.osP = p
  revert t p; decide

theorem writeOk_config (c : CfgRegs) : BusOp.writeOk Config.addrConfig (configByte c) = true := by
  simp only [configByte]
  generalize c.filter = x
  revert x; decide

theorem writeOk_resHeat (b : Byte) : BusOp.writeOk Config.addrResHeat0 b = true := rfl

theorem writeOk_gasWait (b : Byte) : BusOp.writeOk Config.addrGasWait0 b = true := rfl

theorem writeOk_ctrlGas_off : BusOp.writeOk Config.addrCtrlGas1 ctrlGasOffByte = true := by decide

theorem writeOk_ctrlGas_on : BusOp.writeOk Config.addrCtrlGas1 ctrlGasOnByte = true := by decide

/-- A read of R69's list and its reply are well-formed: a burst has the length asked for (R62). -/
theorem wf_readTransaction (s : State) (f : Bool) {addr : Byte} {n : Nat} (h : BusOp.readOk addr n = true) :
    Transaction.wf ⟨.read addr n, if f then .error else .ok (burst s addr n)⟩ = true := by
  cases f <;> simp [Transaction.wf, BusOp.wf, h]

theorem wf_writeTransaction (f : Bool) {addr b : Byte} (h : BusOp.writeOk addr b = true) :
    Transaction.wf ⟨.write addr [b], if f then .error else .ok []⟩ = true := by
  cases f <;> simp [Transaction.wf, BusOp.wf, h]

/-! ### One micro-step on the bus -/

/-- The sensor and the trace do not differ. -/
def SameBus (s t : State) : Prop := t.sensor = s.sensor ∧ t.trace = s.trace

/-- What a micro-step can do on the bus: nothing, or one read or write of R69's list, which fails or not. -/
inductive BusStep (s t : State) : Prop where
  | quiet (h : SameBus s t)
  | read (f : Bool) (addr : Byte) (n : Nat) (hok : BusOp.readOk addr n = true) (h : SameBus (afterBusRead s f addr n) t)
  | write (f : Bool) (addr b : Byte) (hok : BusOp.writeOk addr b = true) (h : SameBus (afterBusWrite s f addr b) t)

theorem readStep_busStep {k : List Byte → State → State} {s : State} {f : Bool} {addr : Byte} {n : Nat}
    (hok : BusOp.readOk addr n = true) (hk : ∀ bs u, SameBus u (k bs u)) : BusStep s (readStep s f addr n k) := by
  obtain heq | heq := readStep_cases s f addr n k <;> rw [heq]
  · exact .read true addr n hok ⟨rfl, rfl⟩
  · exact .read false addr n hok (hk _ _)

theorem writeStep_busStep {k : State → State} {s : State} {f : Bool} {addr b : Byte}
    (hok : BusOp.writeOk addr b = true) (hk : ∀ u, SameBus u (k u)) : BusStep s (writeStep s f addr b k) := by
  obtain heq | heq := writeStep_cases s f addr b k <;> rw [heq]
  · exact .write true addr b hok ⟨rfl, rfl⟩
  · exact .write false addr b hok (hk _)

theorem sameBus_load (st : SeqState) (n : BitVec 4) (s : State) (c : Vector Byte 41) (a : Vector Byte 3) (f : Vector Byte 15) :
    SameBus s (goto st n { s with calbuf := c, auxbuf := a, fldbuf := f }) := ⟨rfl, rfl⟩

theorem waitStep_sameBus (bound : Nat) (n : BitVec 4) (s : State) : SameBus s (waitStep bound n s) := by
  unfold waitStep
  split <;> exact ⟨rfl, rfl⟩

theorem initPolled_sameBus (b : Byte) (s : State) : SameBus s (initPolled b s) := by
  simp only [initPolled]
  split
  · exact ⟨rfl, rfl⟩
  · split <;> exact ⟨rfl, rfl⟩

theorem initIdentified_sameBus (b : Byte) (s : State) : SameBus s (initIdentified b s) := by
  unfold initIdentified
  split <;> exact ⟨rfl, rfl⟩

theorem polled_sameBus (b : Byte) (s : State) : SameBus s (polled b s) := by
  simp only [polled]
  split
  · exact ⟨rfl, rfl⟩
  · split <;> exact ⟨rfl, rfl⟩

theorem cycleFinish_sameBus (s : State) : SameBus s (cycleFinish s) := by
  constructor <;> simp [cycleFinish, compAll]

theorem initStep_busStep {f : Bool} {s t : State} (h : initStep f s = .next t) : BusStep s t := by
  obtain ⟨-, rfl⟩ | ⟨-, rfl⟩ | ⟨-, rfl⟩ | ⟨-, rfl⟩ | ⟨-, rfl⟩ | ⟨-, rfl⟩ | ⟨-, rfl⟩ | ⟨-, rfl⟩ | ⟨-, rfl⟩ | ⟨-, rfl⟩ :=
    initStep_cases h
  · exact writeStep_busStep (by decide) fun _ => ⟨rfl, rfl⟩
  · exact readStep_busStep (by decide) fun _ _ => initPolled_sameBus _ _
  · exact .quiet (waitStep_sameBus _ _ _)
  · exact readStep_busStep (by decide) fun _ _ => initIdentified_sameBus _ _
  iterate 5 exact readStep_busStep (by decide) fun _ u => sameBus_load _ _ u _ _ _
  · exact .quiet ⟨rfl, rfl⟩

theorem configuringStep_busStep {f : Bool} {s t : State} (h : configuringStep f s = .next t) : BusStep s t := by
  obtain ⟨-, rfl⟩ | ⟨-, rfl⟩ | ⟨-, rfl⟩ | ⟨-, -, rfl⟩ | ⟨-, -, rfl⟩ | ⟨-, rfl⟩ | ⟨-, rfl⟩ := configuringStep_cases h
  · exact writeStep_busStep (writeOk_ctrlHum _) fun _ => ⟨rfl, rfl⟩
  · exact writeStep_busStep (writeOk_ctrlMeas_sleep _) fun _ => ⟨rfl, rfl⟩
  · exact writeStep_busStep (writeOk_config _) fun _ => ⟨rfl, rfl⟩
  · exact writeStep_busStep (writeOk_resHeat _) fun _ => ⟨rfl, rfl⟩
  · exact writeStep_busStep writeOk_ctrlGas_off fun _ => ⟨rfl, rfl⟩
  · exact writeStep_busStep (writeOk_gasWait _) fun _ => ⟨rfl, rfl⟩
  · exact writeStep_busStep writeOk_ctrlGas_on fun _ => ⟨rfl, rfl⟩

/-- A micro-step makes at most one transaction (R202), and in `Idle` there is none. -/
theorem microStep_busStep {f : Bool} {s t : State} (h : microStep f s = .next t) :
    t = s ∨ (s.seq.state ≠ .idle ∧ BusStep s t) := by
  by_cases hrun : s.seq.state = .idle
  · exact .inl ((microStep_cases h).resolve_right (by simp [hrun])).2
  refine .inr ⟨hrun, ?_⟩
  obtain ⟨-, rfl⟩ | ⟨-, h⟩ | ⟨-, h⟩ | ⟨-, -, rfl⟩ | ⟨-, -, rfl⟩ | ⟨-, -, rfl⟩ | ⟨-, -, rfl⟩ | ⟨-, -, rfl⟩ | ⟨-, -, rfl⟩ :=
    microStep_cases h
  · exact .quiet ⟨rfl, rfl⟩
  · exact initStep_busStep h
  · exact configuringStep_busStep h
  · exact writeStep_busStep (writeOk_ctrlMeas_forced _) fun _ => ⟨rfl, rfl⟩
  · exact readStep_busStep (by decide) fun _ _ => polled_sameBus _ _
  · exact .quiet (waitStep_sameBus _ _ _)
  · exact readStep_busStep (by decide) fun _ u => sameBus_load _ _ u _ _ _
  · exact .quiet (cycleFinish_sameBus _)
  · exact .quiet ⟨rfl, rfl⟩

/-! ### Operations stay off the bus -/

/-- What operations leave alone: the sensor, the trace, the schedule and the byte buffers. -/
def SameEnvironment (s t : State) : Prop :=
  SameBus s t ∧ t.inputs = s.inputs ∧ t.calbuf = s.calbuf ∧ t.auxbuf = s.auxbuf ∧ t.fldbuf = s.fldbuf

/-- The heater codes are registers of the configuration (R199). -/
theorem heaterCodes_frame (s : State) : heaterCodes s = { s with cfg := (heaterCodes s).cfg } := by
  unfold heaterCodes
  split <;> rfl

theorem acceptedBody_sameEnvironment (i : Instr) (s : State) : SameEnvironment s (acceptedBody i s) := by
  unfold SameEnvironment SameBus
  cases i with
  | nop | clrerr => exact ⟨⟨rfl, rfl⟩, rfl, rfl, rfl, rfl⟩
  | init => simp [acceptedBody, initBody]
  | measure =>
    rw [acceptedBody, measureBody, heaterCodes_frame]
    exact ⟨⟨rfl, rfl⟩, rfl, rfl, rfl, rfl⟩
  | caldec => simp [acceptedBody, caldecBody]
  | flddec => simp [acceptedBody, flddecBody]
  | compt => simp [acceptedBody, comptBody]
  | compp => simp [acceptedBody, comppBody]
  | comph => simp [acceptedBody, comphBody]
  | compg => simp [acceptedBody, compgBody]
  | heatr => simp [acceptedBody, heatrBody]
  | heatd => simp [acceptedBody, heatdBody]

/-- An operation, rejected or accepted, leaves the environment alone. -/
theorem exec_sameEnvironment {i : Instr} {s t : State} (h : exec i s = .next t) : SameEnvironment s t := by
  obtain ⟨-, rfl⟩ | ⟨-, -, rfl⟩ | ⟨-, -, -, rfl⟩ | ⟨-, -, -, rfl⟩ := exec_cases h
  iterate 3 exact ⟨⟨rfl, rfl⟩, rfl, rfl, rfl, rfl⟩
  · exact acceptedBody_sameEnvironment i (accept s)

/-- Settles O28: rejected, an operation sets two registers; accepted, it works on the data registers and the control position. -/
theorem operationsMakeNoTransaction : Obligations.OperationsMakeNoTransaction := by
  intro i s t h
  obtain ⟨⟨hsensor, htrace⟩, hrest⟩ := exec_sameEnvironment h
  exact ⟨fun a => by rw [hsensor], htrace, hrest⟩

theorem hostAction_sameBus {a : HostAction} {s t : State} (h : hostAction a s = .next t) : SameBus s t := by
  obtain ⟨hr, -, rfl⟩ | ⟨hr, data, -, -, rfl⟩ | ⟨data, -, -, rfl⟩ | ⟨data, i, -, -, hexec⟩ := hostAction_cases h
  · exact ⟨rfl, rfl⟩
  · obtain ⟨c, -, heq⟩ | ⟨r, -, -, -, -, heq⟩ := hostWrite_cases hr data s <;> rw [heq]
    · exact ⟨rfl, rfl⟩
    · rw [writeReg_frame]
      exact ⟨rfl, rfl⟩
  · unfold rejectCommand
    split <;> exact ⟨rfl, rfl⟩
  · exact (exec_sameEnvironment hexec).1

/-! ### One step -/

/-- What a step can do to the sensor and the trace: a transaction of a running sequence, a change of one sensor register by the
environment, or nothing. -/
theorem step_bus {s t : State} (h : step s = .next t) :
    SameBus s t ∨ (∃ a v, t.sensor = s.sensor.set (BitVec.toNat (w := 8) a) v ∧ t.trace = s.trace) ∨
      (s.seq.state ≠ .idle ∧ ∃ rest, BusStep { s with inputs := rest } t) := by
  have hmicro {f : Bool} {rest : List Input} (h : microStep f { s with inputs := rest } = .next t) :
      SameBus s t ∨ (s.seq.state ≠ .idle ∧ ∃ rest, BusStep { s with inputs := rest } t) := by
    obtain rfl | ⟨hrun, hbus⟩ := microStep_busStep h
    · exact .inl ⟨rfl, rfl⟩
    · exact .inr ⟨hrun, rest, hbus⟩
  obtain ⟨a, rest, -, hact⟩ | ⟨f, rest, -, h⟩ | ⟨a, v, rest, -, rfl⟩ | ⟨ms, rest, -, rfl⟩ | ⟨rest, -, rfl⟩ |
    ⟨b, -, -, -, rfl⟩ | ⟨f, -, h⟩ := step_cases h
  · obtain ⟨hs, ht⟩ := hostAction_sameBus hact
    exact .inl ⟨hs, ht⟩
  · exact (hmicro h).imp_right .inr
  · exact .inr (.inl ⟨a, v, rfl, rfl⟩)
  iterate 3 exact .inl ⟨rfl, rfl⟩
  · exact (hmicro (rest := s.inputs) h).imp_right .inr

/-- Settles O45: a step that adds to the trace is a micro-step, whose one transaction is of R69's list. -/
theorem onlyListedTransactionsAreMade : Obligations.OnlyListedTransactionsAreMade := by
  intro s t hinv h
  have hsame (ht : t.trace = s.trace) : TraceInv t := by
    unfold TraceInv
    rwa [ht]
  have hadded {tr : Transaction} (ht : t.trace = tr :: s.trace) (hwf : tr.wf = true) : TraceInv t := by
    unfold TraceInv
    rw [ht]
    exact List.forall_mem_cons.2 ⟨hwf, hinv⟩
  obtain ⟨-, ht⟩ | ⟨a, v, -, ht⟩ | ⟨hrun, rest, hbus⟩ := step_bus h
  · exact ⟨hsame ht, .inl ht⟩
  · exact ⟨hsame ht, .inl ht⟩
  · cases hbus with
    | quiet h => exact ⟨hsame h.2, .inl h.2⟩
    | read f addr n hok h => exact ⟨hadded h.2 (wf_readTransaction _ f hok), .inr ⟨⟨_, h.2⟩, hrun⟩⟩
    | write f addr b hok h => exact ⟨hadded h.2 (wf_writeTransaction f hok), .inr ⟨⟨_, h.2⟩, hrun⟩⟩

/-- Settles O44: every change of the sensor's registers keeps the form, and an address has eight bits. -/
theorem sensorSpaceStaysCanonical : Obligations.SensorSpaceStaysCanonical := by
  intro s t hinv h
  unfold SensorInv at hinv ⊢
  obtain ⟨hs, -⟩ | ⟨a, v, hs, -⟩ | ⟨-, rest, hbus⟩ := step_bus h
  · rwa [hs]
  · rw [hs]
    exact Memory.wf_set _ _ _ a.isLt hinv
  · cases hbus with
    | quiet h => rw [h.1]; exact hinv
    | read f addr n _ h => rw [h.1]; exact Memory.wf_afterRead _ _ _ hinv
    | write f addr b _ h =>
      rw [h.1, afterBusWrite_sensor]
      split
      · exact Memory.wf_afterWriteAttempt _ _ hinv
      · exact Memory.wf_afterWrite _ _ _ addr.isLt hinv

/-! ### What is known after a transaction (R50, R63, R70) -/

/-- R70's first list, by number: the soft-reset register, `ctrl_meas`, the field block. -/
theorem volatileAddr_eq (a : Nat) : volatileAddr a = (a == 0xE0 || a == 0x74 || (0x1D ≤ a && a ≤ 0x2B)) := by
  rw [Bool.eq_iff_iff]
  simp [volatileAddr, Config.addrReset, Config.addrCtrlMeas, Config.addrField, Config.lenField]
  omega

/-- R70's second list, by number: the chip id and the calibration registers. -/
theorem constantAddr_eq (a : Nat) :
    constantAddr a = (a == 0xD0 || (0x89 ≤ a && a ≤ 0xA1) || (0xE1 ≤ a && a ≤ 0xF0) || a == 0x02 || a == 0x00 || a == 0x04) := by
  rw [Bool.eq_iff_iff]
  simp [constantAddr, Config.addrChipId, Config.addrCal1, Config.lenCal1, Config.addrCal2, Config.lenCal2,
    Config.addrResHeatRange, Config.addrResHeatVal, Config.addrRangeSwErr]
  omega

theorem Memory.get?_afterRead (m : Memory) (a n k : Nat) :
    (m.afterRead a n).get? k = if a ≤ k && k < a + n && volatileAddr k then none else m.get? k := by
  rw [Memory.afterRead, Memory.get?_keep]
  cases a ≤ k && k < a + n && volatileAddr k <;> rfl

theorem Memory.get?_afterWriteAttempt_reset (m : Memory) (k : Nat) :
    (m.afterWriteAttempt 0xE0).get? k = if constantAddr k then m.get? k else none :=
  Memory.get?_keep m constantAddr k

theorem Memory.get?_afterWriteAttempt_ctrlMeas (m : Memory) (k : Nat) :
    (m.afterWriteAttempt 0x74).get? k = if volatileAddr k then none else m.get? k := by
  have hkeep : m.afterWriteAttempt 0x74 = m.keep fun k => !volatileAddr k := rfl
  rw [hkeep, Memory.get?_keep]
  cases volatileAddr k <;> rfl

/-- Any other write that may have failed leaves its own register unknown (R63). -/
theorem Memory.get?_afterWriteAttempt_other (m : Memory) {a : Nat} (k : Nat) (hreset : a ≠ 0xE0) (hmeas : a ≠ 0x74) :
    (m.afterWriteAttempt a).get? k = if k = a then none else m.get? k := by
  have hkeep : m.afterWriteAttempt a = m.keep fun k => !decide (k = a) :=
    (if_neg hreset).trans (if_neg hmeas)
  rw [hkeep, Memory.get?_keep]
  by_cases hk : k = a <;> simp [hk]

theorem Memory.afterWrite_volatile (m : Memory) {a : Nat} (v : Byte) (h : volatileAddr a = true) :
    m.afterWrite a v = m.afterWriteAttempt a := by
  rw [Memory.afterWrite, if_pos h]

/-- A successful write to a register that does not change by itself is read back (R70). -/
theorem Memory.get?_afterWrite_stable (m : Memory) {a : Nat} (v : Byte) (k : Nat) (h : volatileAddr a = false) :
    (m.afterWrite a v).get? k = if k = a then some v else m.get? k := by
  have hreset : a ≠ 0xE0 := by rintro rfl; exact absurd h (by decide)
  have hmeas : a ≠ 0x74 := by rintro rfl; exact absurd h (by decide)
  rw [Memory.afterWrite, h, if_neg (by decide), Memory.get?_set, Memory.get?_afterWriteAttempt_other m k hreset hmeas]
  by_cases hk : k = a
  · rw [if_pos hk.symm, if_pos hk]
  · rw [if_neg (Ne.symm hk), if_neg hk, if_neg hk]

/-- Settles O39: each clause is the rule of its transaction, with R70's two lists as numbers. -/
theorem sensorContentAfterTransactions : Obligations.SensorContentAfterTransactions := by
  intro m a n k v volatileReg constantReg
  have hvol : volatileReg = volatileAddr := funext fun x => (volatileAddr_eq x).symm
  have hconst : constantReg = constantAddr := funext fun x => (constantAddr_eq x).symm
  rw [hvol, hconst]
  exact ⟨m.get?_afterRead a n k, m.get?_afterWriteAttempt_reset k, m.get?_afterWriteAttempt_ctrlMeas k,
    m.get?_afterWriteAttempt_other k, fun h => by rw [m.afterWrite_volatile v h], m.get?_afterWrite_stable v k⟩

end Sys2Proof.Machine
end

section
/-! PROOFS. The control invariant is kept by every step (R201 to R226, R247). -/

namespace Sys2Proof.Machine

/-! ### The invariant in two halves: the control position, and the flags -/

/-- What `ControlInv` says of the control position, the timer and `CFG.gas_en`. -/
structure PositionInv (s : State) : Prop where
  position : seqPairOk s.seq.state s.seq.step = true
  gasSteps : s.seq.state = .configuring → 4 ≤ s.seq.step.toNat → s.cfg.gasEn = true
  timerRuns : s.timer.isSome = (waitBound s).isSome
  pollsLeft : s.seq.state = .polling → s.seq.polls.toNat < Config.pollMax
  pollsReady : s.seq.state = .dataReady → 1 ≤ s.seq.polls.toNat ∧ s.seq.polls.toNat ≤ Config.pollMax
  pollsSpent : s.seq.state = .timedOut → s.seq.polls.toNat = Config.pollMax

/-- What `ControlInv` says of the flags in every state of the sequencer. -/
structure FlagsInv (s : State) : Prop where
  tfineNeeds : s.tfineValid = true → s.calValid = true ∧ s.rawValid = true
  outNeeds : s.outValid = true → s.tfineValid = true
  rejection : s.rej = true ↔ s.rejc ≠ .none

/-- What `ControlInv` says of the flags and the outcome while a sequence runs. -/
structure RunningInv (s : State) : Prop where
  underWay : s.done = false ∧ s.err = .ok
  nothingValid : s.rawValid = false ∧ s.tfineValid = false ∧ s.outValid = false
  initInvalid : s.seq.state = .init → s.calValid = false
  cycleValid : s.seq.state ≠ .init → s.calValid = true

theorem ControlInv.flagsInv {s : State} (h : ControlInv s) : FlagsInv s := { h with }

theorem State.inCycle_eq_true (s : State) : s.inCycle = true ↔ s.seq.state ≠ .idle ∧ s.seq.state ≠ .init := by
  simp [State.inCycle]

theorem ControlInv.runningInv {s : State} (h : ControlInv s) (hrun : s.seq.state ≠ .idle) : RunningInv s where
  underWay := h.underWay ((State.busy_eq_true s).2 hrun)
  nothingValid := h.nothingValid ((State.busy_eq_true s).2 hrun)
  initInvalid := h.initInvalid
  cycleValid := fun hne => h.cycleValid ((State.inCycle_eq_true s).2 ⟨hrun, hne⟩)

theorem controlInv_of {s : State} (hpos : PositionInv s) (hflags : FlagsInv s) (hrun : s.seq.state ≠ .idle → RunningInv s) :
    ControlInv s :=
  { hpos, hflags with
    underWay := fun hb => (hrun ((State.busy_eq_true s).1 hb)).underWay
    nothingValid := fun hb => (hrun ((State.busy_eq_true s).1 hb)).nothingValid
    initInvalid := fun hst => (hrun (by simp [hst])).initInvalid hst
    cycleValid := fun hc =>
      have hne := (State.inCycle_eq_true s).1 hc
      (hrun hne.1).cycleValid hne.2 }

/-! ### Control positions, by state -/

theorem waitBound_init {s : State} (hst : s.seq.state = .init) :
    (waitBound s).isSome = decide (s.seq.step = 2) := by
  simp only [waitBound, hst]
  by_cases hstep : s.seq.step = 2
  · rw [if_pos hstep, decide_eq_true hstep]; rfl
  · rw [if_neg hstep, decide_eq_false hstep]; rfl

theorem waitBound_polling {s : State} (hst : s.seq.state = .polling) :
    (waitBound s).isSome = decide (s.seq.step = 1) := by
  simp only [waitBound, hst]
  by_cases hstep : s.seq.step = 1
  · rw [if_pos hstep, decide_eq_true hstep]; rfl
  · rw [if_neg hstep, decide_eq_false hstep]; rfl

/-- The waits belong to `Init` and to `Polling` (R202). -/
theorem waitBound_eq_none {s : State} (hinit : s.seq.state ≠ .init) (hpoll : s.seq.state ≠ .polling) : waitBound s = none := by
  unfold waitBound
  split
  case h_1 hst => exact absurd hst hinit
  case h_2 hst => exact absurd hst hpoll
  all_goals rfl

theorem PositionInv.idle {s : State} (hst : s.seq.state = .idle) (hstep : s.seq.step = 0) (htimer : s.timer = none) :
    PositionInv s := by
  have hwait : waitBound s = none := waitBound_eq_none (by simp [hst]) (by simp [hst])
  constructor <;> simp [hst, hstep, htimer, hwait, seqPairOk]

theorem PositionInv.init {s : State} (hst : s.seq.state = .init) (hstep : s.seq.step.toNat ≤ 9)
    (htimer : s.timer.isSome = decide (s.seq.step = 2)) : PositionInv s := by
  constructor <;> simp [hst, hstep, htimer, waitBound_init, seqPairOk]

theorem PositionInv.configuring {s : State} (hst : s.seq.state = .configuring) (hstep : s.seq.step.toNat ≤ 5)
    (hgas : 4 ≤ s.seq.step.toNat → s.cfg.gasEn = true) (htimer : s.timer = none) : PositionInv s := by
  have hwait : waitBound s = none := waitBound_eq_none (by simp [hst]) (by simp [hst])
  exact ⟨by simp [hst, hstep, seqPairOk], fun _ => hgas, by simp [htimer, hwait], by simp [hst], by simp [hst], by simp [hst]⟩

theorem PositionInv.triggered {s : State} (hst : s.seq.state = .triggered) (hstep : s.seq.step = 0) (htimer : s.timer = none) :
    PositionInv s := by
  have hwait : waitBound s = none := waitBound_eq_none (by simp [hst]) (by simp [hst])
  constructor <;> simp [hst, hstep, htimer, hwait, seqPairOk]

theorem PositionInv.polling {s : State} (hst : s.seq.state = .polling) (hstep : s.seq.step.toNat ≤ 1)
    (htimer : s.timer.isSome = decide (s.seq.step = 1)) (hpolls : s.seq.polls.toNat < Config.pollMax) : PositionInv s := by
  constructor <;> simp [hst, hstep, htimer, hpolls, waitBound_polling, seqPairOk]

theorem PositionInv.dataReady {s : State} (hst : s.seq.state = .dataReady) (hstep : s.seq.step.toNat ≤ 1)
    (htimer : s.timer = none) (hpolls : 1 ≤ s.seq.polls.toNat ∧ s.seq.polls.toNat ≤ Config.pollMax) : PositionInv s := by
  have hwait : waitBound s = none := waitBound_eq_none (by simp [hst]) (by simp [hst])
  constructor <;> simp [hst, hstep, htimer, hwait, hpolls, seqPairOk]

theorem PositionInv.timedOut {s : State} (hst : s.seq.state = .timedOut) (hstep : s.seq.step = 0)
    (htimer : s.timer = none) (hpolls : s.seq.polls.toNat = Config.pollMax) : PositionInv s := by
  have hwait : waitBound s = none := waitBound_eq_none (by simp [hst]) (by simp [hst])
  constructor <;> simp [hst, hstep, htimer, hwait, hpolls, seqPairOk]

/-- `Idle` is step 0 with the timer stopped. -/
theorem ControlInv.idle_rest {s : State} (h : ControlInv s) (hst : s.seq.state = .idle) :
    s.seq.step = 0 ∧ s.timer = none := by
  have hpos := h.position
  have htimer := h.timerRuns
  rw [waitBound_eq_none (by simp [hst]) (by simp [hst])] at htimer
  rw [hst] at hpos
  exact ⟨BitVec.eq_of_toNat_eq (of_decide_eq_true hpos), by simpa using htimer⟩

/-- Outside the waits the timer is stopped. -/
theorem ControlInv.timer_eq_none {s : State} (h : ControlInv s) (hwait : waitBound s = none) : s.timer = none := by
  simpa [hwait] using h.timerRuns

/-! ### Moves that keep the invariant -/

theorem SameData.cfg {s t : State} (h : SameData s t) : t.cfg = s.cfg := congrArg DataRegs.cfg h.1

theorem SameData.calValid {s t : State} (h : SameData s t) : t.calValid = s.calValid := congrArg DataRegs.calValid h.1

theorem SameData.rawValid {s t : State} (h : SameData s t) : t.rawValid = s.rawValid := congrArg DataRegs.rawValid h.1

theorem SameData.tfineValid {s t : State} (h : SameData s t) : t.tfineValid = s.tfineValid := congrArg DataRegs.tfineValid h.1

theorem SameData.outValid {s t : State} (h : SameData s t) : t.outValid = s.outValid := congrArg DataRegs.outValid h.1

theorem SameData.rej {s t : State} (h : SameData s t) : t.rej = s.rej := congrArg Prod.fst h.2

theorem SameData.rejc {s t : State} (h : SameData s t) : t.rejc = s.rejc := congrArg (fun a => a.2.1) h.2

theorem SameData.inputs {s t : State} (h : SameData s t) : t.inputs = s.inputs := congrArg (fun a => a.2.2) h.2

theorem FlagsInv.of_same {s t : State} (h : FlagsInv s) (hdata : SameData s t) : FlagsInv t where
  tfineNeeds := by rw [hdata.tfineValid, hdata.calValid, hdata.rawValid]; exact h.tfineNeeds
  outNeeds := by rw [hdata.outValid, hdata.tfineValid]; exact h.outNeeds
  rejection := by rw [hdata.rej, hdata.rejc]; exact h.rejection

/-- Within a sequence, to another control position. -/
theorem ControlInv.move {s t : State} (h : ControlInv s) (hrun : s.seq.state ≠ .idle) (hdata : SameData s t)
    (hout : t.done = s.done ∧ t.err = s.err) (hinit : t.seq.state = .init ↔ s.seq.state = .init) (hpos : PositionInv t) :
    ControlInv t := by
  have hr := h.runningInv hrun
  refine controlInv_of hpos (h.flagsInv.of_same hdata) fun _ => ⟨?_, ?_, fun hst => ?_, fun hne => ?_⟩
  · rw [hout.1, hout.2]
    exact hr.underWay
  · rw [hdata.rawValid, hdata.tfineValid, hdata.outValid]
    exact hr.nothingValid
  · rw [hdata.calValid]
    exact hr.initInvalid (hinit.1 hst)
  · rw [hdata.calValid]
    exact hr.cycleValid fun hst => hne (hinit.2 hst)

/-- Into `Idle`, where only the flags' dependencies count. -/
theorem controlInv_of_idle {t : State} (hflags : FlagsInv t) (hidle : t.seq.state = .idle) (hstep : t.seq.step = 0)
    (htimer : t.timer = none) : ControlInv t :=
  controlInv_of (.idle hidle hstep htimer) hflags fun hne => absurd hidle hne

/-- The end of a sequence outside its waits (R268). -/
theorem ControlInv.endOperation {s : State} (h : ControlInv s) (hrun : s.seq.state ≠ .idle) (htimer : s.timer = none)
    (e : ErrCode) : ControlInv (endOperation e s) := by
  rw [endOperation_running e s hrun]
  exact controlInv_of_idle { h with } rfl rfl htimer

/-- A transaction touches nothing that the invariant looks at. -/
theorem ControlInv.afterBusRead {s : State} (h : ControlInv s) (f : Bool) (addr : Byte) (n : Nat) :
    ControlInv (afterBusRead s f addr n) := { h with }

theorem ControlInv.afterBusWrite {s : State} (h : ControlInv s) (f : Bool) (addr b : Byte) :
    ControlInv (afterBusWrite s f addr b) := { h with }

theorem ControlInv.readStep {k : List Byte → State → State} {s : State} {f : Bool} {addr : Byte} {n : Nat} (h : ControlInv s)
    (hrun : s.seq.state ≠ .idle) (htimer : s.timer = none)
    (hk : ∀ bs u, ControlInv u → u.seq = s.seq → u.timer = none → ControlInv (k bs u)) :
    ControlInv (readStep s f addr n k) := by
  obtain heq | heq := readStep_cases s f addr n k <;> rw [heq]
  · exact (h.afterBusRead true addr n).endOperation hrun htimer _
  · exact hk _ _ (h.afterBusRead false addr n) rfl htimer

theorem ControlInv.writeStep {k : State → State} {s : State} {f : Bool} {addr b : Byte} (h : ControlInv s)
    (hrun : s.seq.state ≠ .idle) (htimer : s.timer = none)
    (hk : ∀ u, ControlInv u → u.seq = s.seq → u.cfg = s.cfg → u.timer = none → ControlInv (k u)) :
    ControlInv (writeStep s f addr b k) := by
  obtain heq | heq := writeStep_cases s f addr b k <;> rw [heq]
  · exact (h.afterBusWrite true addr b).endOperation hrun htimer _
  · exact hk _ (h.afterBusWrite false addr b) rfl rfl htimer

/-! ### `Init` -/

/-- From one step of `Init` to another. -/
theorem ControlInv.init_move {s t : State} (h : ControlInv s) (hst : s.seq.state = .init) (hdata : SameData s t)
    (hout : t.done = s.done ∧ t.err = s.err) (hst' : t.seq.state = .init) (hstep : t.seq.step.toNat ≤ 9)
    (htimer : t.timer.isSome = decide (t.seq.step = 2)) : ControlInv t :=
  h.move (by simp [hst]) hdata hout (by simp [hst, hst']) (.init hst' hstep htimer)

/-- In `Init` the timer runs in step 2 only. -/
theorem ControlInv.timer_init {s : State} (h : ControlInv s) (hst : s.seq.state = .init) (hstep : s.seq.step ≠ 2) :
    s.timer = none := by
  have htimer := h.timerRuns
  rw [waitBound_init hst, decide_eq_false hstep] at htimer
  simpa using htimer

/-- Loading a byte buffer and going on to a step that is no wait (R205). -/
theorem ControlInv.init_load {s : State} (h : ControlInv s) (hst : s.seq.state = .init) (htimer : s.timer = none) {n : BitVec 4}
    (hn : n.toNat ≤ 9) (hwait : n ≠ 2) (c : Vector Byte 41) (a : Vector Byte 3) (f : Vector Byte 15) :
    ControlInv (Machine.goto .init n { s with calbuf := c, auxbuf := a, fldbuf := f }) :=
  h.init_move hst (sameData_load _ _ s c a f) ⟨rfl, rfl⟩ rfl hn
    ((congrArg Option.isSome htimer).trans (decide_eq_false hwait).symm)

theorem ControlInv.initPolled {s : State} (h : ControlInv s) (hst : s.seq.state = .init) (htimer : s.timer = none) (b : Byte) :
    ControlInv (initPolled b s) := by
  have hdata := initPolled_sameData b s
  revert hdata
  simp only [Machine.initPolled]
  split
  · exact fun hdata => h.init_move hst hdata ⟨rfl, rfl⟩ rfl (by decide : 3 ≤ 9) (congrArg Option.isSome htimer)
  · rw [if_neg (by simp [Config.resetPollMax])]
    exact fun hdata => h.init_move hst hdata ⟨rfl, rfl⟩ rfl (by decide : 2 ≤ 9) rfl

theorem ControlInv.initIdentified {s : State} (h : ControlInv s) (hst : s.seq.state = .init) (htimer : s.timer = none) (b : Byte) :
    ControlInv (initIdentified b s) := by
  unfold Machine.initIdentified
  split
  · exact h.init_move hst ⟨rfl, rfl⟩ ⟨rfl, rfl⟩ rfl (by decide : 4 ≤ 9) (congrArg Option.isSome htimer)
  · exact h.endOperation (by simp [hst]) htimer _

/-- A wait that is over stops the timer and goes back to the poll (R205, R218). -/
theorem ControlInv.waitStep {s : State} (h : ControlInv s) {bound : Nat} {n : BitVec 4} (hrun : s.seq.state ≠ .idle)
    (hpos : PositionInv { goto s.seq.state n s with timer := none }) : ControlInv (waitStep bound n s) := by
  unfold Machine.waitStep
  split
  · exact h.move hrun ⟨rfl, rfl⟩ ⟨rfl, rfl⟩ Iff.rfl hpos
  · exact h

/-- `INIT` ends with valid coefficients and nothing computed (R206). -/
theorem ControlInv.initFinish {s : State} (h : ControlInv s) (hst : s.seq.state = .init) (htimer : s.timer = none) :
    ControlInv (initFinish s) := by
  have hrun : s.seq.state ≠ .idle := by simp [hst]
  have hr := h.runningInv hrun
  rw [initFinish_eq s hrun]
  refine controlInv_of_idle { h with tfineNeeds := fun htf => ?_ } rfl rfl htimer
  exact absurd htf (by simp [hr.nothingValid.2.1])

theorem ControlInv.initStep {f : Bool} {s t : State} (h : ControlInv s) (hst : s.seq.state = .init)
    (ht : initStep f s = .next t) : ControlInv t := by
  have hrun : s.seq.state ≠ .idle := by simp [hst]
  have hread {addr : Byte} {n : Nat} {k : List Byte → State → State} (hstep : s.seq.step ≠ 2)
      (hk : ∀ bs u, ControlInv u → u.seq.state = .init → u.timer = none → ControlInv (k bs u)) :
      ControlInv (Machine.readStep s f addr n k) :=
    h.readStep hrun (h.timer_init hst hstep) fun bs u hu hseq => hk bs u hu (hseq ▸ hst)
  obtain ⟨hstep, rfl⟩ | ⟨hstep, rfl⟩ | ⟨hstep, rfl⟩ | ⟨hstep, rfl⟩ | ⟨hstep, rfl⟩ | ⟨hstep, rfl⟩ | ⟨hstep, rfl⟩ | ⟨hstep, rfl⟩ |
    ⟨hstep, rfl⟩ | ⟨hstep, rfl⟩ := initStep_cases ht
  · exact h.writeStep hrun (h.timer_init hst (by simp [hstep])) fun u hu hseq _ htimer =>
      hu.init_move (hseq ▸ hst) ⟨rfl, rfl⟩ ⟨rfl, rfl⟩ rfl (by decide : 1 ≤ 9) (congrArg Option.isSome htimer)
  · exact hread (by simp [hstep]) fun bs u hu hst htimer => hu.initPolled hst htimer _
  · exact h.waitStep hrun (.init hst (by decide : 1 ≤ 9) rfl)
  · exact hread (by simp [hstep]) fun bs u hu hst htimer => hu.initIdentified hst htimer _
  iterate 5
    exact hread (by simp [hstep]) fun bs u hu hst htimer => hu.init_load hst htimer (by decide) (by decide) _ _ _
  · exact h.initFinish hst (h.timer_init hst (by simp [hstep]))

/-! ### A cycle -/

/-- From one control position of a cycle to another. -/
theorem ControlInv.cycle_move {s t : State} (h : ControlInv s) (hst : s.seq.state ≠ .idle ∧ s.seq.state ≠ .init)
    (hdata : SameData s t) (hout : t.done = s.done ∧ t.err = s.err) (hst' : t.seq.state ≠ .init) (hpos : PositionInv t) :
    ControlInv t :=
  h.move hst.1 hdata hout (by simp [hst.2, hst']) hpos

theorem ControlInv.configuringStep {f : Bool} {s t : State} (h : ControlInv s) (hst : s.seq.state = .configuring)
    (ht : configuringStep f s = .next t) : ControlInv t := by
  have hwrite {addr b : Byte} {st : SeqState} {n : BitVec 4} (hst' : st ≠ .init)
      (hpos : ∀ u : State, u.cfg = s.cfg → u.timer = none → PositionInv (goto st n u)) :
      ControlInv (Machine.writeStep s f addr b (goto st n)) :=
    h.writeStep (by simp [hst]) (h.timer_eq_none (waitBound_eq_none (by simp [hst]) (by simp [hst])))
      fun u hu hseq hcfg htimer => hu.cycle_move (by simp [hseq, hst]) ⟨rfl, rfl⟩ ⟨rfl, rfl⟩ hst' (hpos u hcfg htimer)
  obtain ⟨-, rfl⟩ | ⟨-, rfl⟩ | ⟨-, rfl⟩ | ⟨-, hgas, rfl⟩ | ⟨-, -, rfl⟩ | ⟨hstep, rfl⟩ | ⟨-, rfl⟩ := configuringStep_cases ht
  · exact hwrite (by decide) fun u _ htimer => .configuring rfl (by decide : 1 ≤ 5) (absurd · (by decide : ¬4 ≤ 1)) htimer
  · exact hwrite (by decide) fun u _ htimer => .configuring rfl (by decide : 2 ≤ 5) (absurd · (by decide : ¬4 ≤ 2)) htimer
  · exact hwrite (by decide) fun u _ htimer => .configuring rfl (by decide : 3 ≤ 5) (absurd · (by decide : ¬4 ≤ 3)) htimer
  · exact hwrite (by decide) fun u hcfg htimer => .configuring rfl (by decide : 4 ≤ 5) (fun _ => by simp [hcfg, hgas]) htimer
  · exact hwrite (by decide) fun u _ htimer => .triggered rfl rfl htimer
  · have hgas := h.gasSteps hst (by simp [hstep])
    exact hwrite (by decide) fun u hcfg htimer => .configuring rfl (by decide : 5 ≤ 5) (fun _ => by simp [hcfg, hgas]) htimer
  · exact hwrite (by decide) fun u _ htimer => .triggered rfl rfl htimer

/-- `Triggered` starts `Polling` with no poll counted (R210). -/
theorem ControlInv.startPolling {s : State} (h : ControlInv s) (hst : s.seq.state = .triggered) (htimer : s.timer = none) :
    ControlInv (startPolling s) :=
  h.cycle_move (by simp [hst]) ⟨rfl, rfl⟩ ⟨rfl, rfl⟩ (by simp [Machine.startPolling])
    (.polling rfl (by decide : 0 ≤ 1) (congrArg Option.isSome htimer) (by decide : 0 < 10))

/-- The poll counter does not wrap while a poll is still allowed (R217). -/
theorem toNat_polls_succ {p : BitVec 8} (h : p.toNat < Config.pollMax) : (p + 1).toNat = p.toNat + 1 := by
  unfold Config.pollMax at h
  rw [BitVec.toNat_add, show (1 : BitVec 8).toNat = 1 from rfl]
  omega

theorem ControlInv.polled {s : State} (h : ControlInv s) (hst : s.seq.state = .polling) (htimer : s.timer = none) (b : Byte) :
    ControlInv (polled b s) := by
  have hleft := h.pollsLeft hst
  have hsucc := toNat_polls_succ hleft
  have hcycle : s.seq.state ≠ .idle ∧ s.seq.state ≠ .init := by simp [hst]
  have hdata := polled_sameData b s
  revert hdata
  simp only [Machine.polled]
  split
  · exact fun hdata => h.cycle_move hcycle hdata ⟨rfl, rfl⟩ (by simp)
      (.dataReady rfl (by decide : 0 ≤ 1) htimer (by simp only [goto_seq]; omega))
  · split
    · next hspent => exact fun hdata => h.cycle_move hcycle hdata ⟨rfl, rfl⟩ (by simp) (.timedOut rfl rfl htimer hspent)
    · next hspent =>
      exact fun hdata => h.cycle_move hcycle hdata ⟨rfl, rfl⟩ (by simp)
        (.polling rfl (by decide : 1 ≤ 1) rfl (by simp only [startTimer_seq, goto_seq]; omega))

/-- The field block is read, and the last micro-step of the cycle comes next (R221). -/
theorem ControlInv.dataReady_load {s : State} (h : ControlInv s) (hst : s.seq.state = .dataReady) (htimer : s.timer = none)
    (f : Vector Byte 15) : ControlInv (Machine.goto .dataReady 1 { s with fldbuf := f }) :=
  h.cycle_move (by simp [hst]) (sameData_load _ _ s _ _ f) ⟨rfl, rfl⟩ (by simp)
    (.dataReady rfl (by decide : 1 ≤ 1) htimer (h.pollsReady hst))

/-- The end of a cycle makes everything valid at once (R222). -/
theorem ControlInv.cycleFinish {s : State} (h : ControlInv s) (hst : s.seq.state = .dataReady) (htimer : s.timer = none) :
    ControlInv (cycleFinish s) := by
  have hrun : s.seq.state ≠ .idle := by simp [hst]
  have hcal : s.calValid = true := (h.runningInv hrun).cycleValid (by simp [hst])
  refine controlInv_of_idle ⟨fun _ => ?_, fun _ => ?_, ?_⟩ ?_ ?_ ?_ <;>
    simp [Machine.cycleFinish, compAll, State.busy, hcal, hst, htimer, h.rejection]

/-- Every micro-step keeps the invariant (R202 to R222). -/
theorem ControlInv.microStep {f : Bool} {s t : State} (h : ControlInv s) (ht : microStep f s = .next t) : ControlInv t := by
  obtain ⟨-, rfl⟩ | ⟨hst, ht⟩ | ⟨hst, ht⟩ | ⟨hst, -, rfl⟩ | ⟨hst, hstep, rfl⟩ | ⟨hst, -, rfl⟩ | ⟨hst, -, rfl⟩ | ⟨hst, -, rfl⟩ |
    ⟨hst, -, rfl⟩ := microStep_cases ht
  · exact h
  · exact h.initStep hst ht
  · exact h.configuringStep hst ht
  all_goals have hrun : s.seq.state ≠ .idle := by simp [hst]
  · exact h.writeStep hrun (h.timer_eq_none (waitBound_eq_none (by simp [hst]) (by simp [hst])))
      fun u hu hseq _ htimer => hu.startPolling (hseq ▸ hst) htimer
  · exact h.readStep hrun (h.timer_eq_none (by simp [waitBound, hst, hstep]))
      fun bs u hu hseq htimer => hu.polled (hseq ▸ hst) htimer _
  · exact h.waitStep hrun (.polling hst (by decide : 0 ≤ 1) rfl (h.pollsLeft hst))
  · exact h.readStep hrun (h.timer_eq_none (waitBound_eq_none (by simp [hst]) (by simp [hst])))
      fun bs u hu hseq htimer => hu.dataReady_load (hseq ▸ hst) htimer _
  · exact h.cycleFinish hst (h.timer_eq_none (waitBound_eq_none (by simp [hst]) (by simp [hst])))
  · exact h.endOperation hrun (h.timer_eq_none (waitBound_eq_none (by simp [hst]) (by simp [hst]))) _

/-! ### The host port -/

theorem ControlInv.reject {s : State} (h : ControlInv s) {c : RejCause} (hc : c ≠ .none) : ControlInv (reject c s) :=
  { h with rejection := by simp [hc] }

theorem ControlInv.writeReg {s : State} (h : ControlInv s) (hidle : s.seq.state = .idle) (data : Word) (r : HostReg) :
    ControlInv (writeReg data s r) := by
  obtain ⟨hstep, htimer⟩ := h.idle_rest hidle
  rw [writeReg_frame]
  exact controlInv_of_idle { h with } hidle hstep htimer

/-- A computation that ends in `Idle`. -/
theorem controlInv_endOperation_idle {s u : State} (h : ControlInv s) (hidle : s.seq.state = .idle) (hseq : u.seq = s.seq)
    (htimer : u.timer = s.timer) (hflags : FlagsInv u) (e : ErrCode) : ControlInv (Machine.endOperation e u) := by
  obtain ⟨hstep, hstop⟩ := h.idle_rest hidle
  rw [endOperation_idle e u (hseq ▸ hidle)]
  exact controlInv_of_idle { hflags with } (hseq ▸ hidle) (hseq ▸ hstep) (htimer ▸ hstop)

/-- An operation accepted with the flags it needs keeps the invariant (R204, R207, R242, R247). -/
theorem ControlInv.acceptedBody {i : Instr} {s : State} (h : ControlInv s) (hidle : s.seq.state = .idle)
    (hready : readyFor i s = true) (hne : i ≠ .nop) : ControlInv (acceptedBody i (accept s)) := by
  obtain ⟨hstep, htimer⟩ := h.idle_rest hidle
  have hflags : FlagsInv (accept s) := { h with }
  cases i with
  | nop => exact absurd rfl hne
  | init =>
    exact controlInv_of (.init rfl (by decide : 0 ≤ 9) (congrArg Option.isSome htimer))
      { h with tfineNeeds := by simp [Machine.acceptedBody, initBody], outNeeds := by simp [Machine.acceptedBody, initBody] }
      fun _ => ⟨⟨rfl, rfl⟩, ⟨rfl, rfl, rfl⟩, fun _ => rfl, fun hn => absurd rfl hn⟩
  | measure =>
    rw [Machine.acceptedBody, measureBody, heaterCodes_frame]
    exact controlInv_of (.configuring rfl (by decide : 0 ≤ 5) (absurd · (by decide : ¬4 ≤ 0)) htimer)
      { h with tfineNeeds := by simp, outNeeds := by simp }
      fun _ => ⟨⟨rfl, rfl⟩, ⟨rfl, rfl, rfl⟩, by simp, fun _ => hready⟩
  | clrerr => exact controlInv_of_idle { h with rejection := by simp [Machine.acceptedBody] } hidle hstep htimer
  | caldec =>
    exact controlInv_endOperation_idle (u := invalidateResults (decodeCoefficients (accept s))) h hidle rfl rfl { h with tfineNeeds := by simp, outNeeds := by simp } _
  | flddec =>
    exact controlInv_endOperation_idle (u := invalidateResults (decodeSample (accept s))) h hidle rfl rfl { h with tfineNeeds := by simp, outNeeds := by simp } _
  | compt =>
    have hneeds : s.calValid = true ∧ s.rawValid = true := by simpa [readyFor, needsCalRaw] using hready
    exact controlInv_endOperation_idle (u := tempBody (accept s)) h hidle rfl rfl
      { h with tfineNeeds := fun _ => hneeds, outNeeds := fun _ => rfl } _
  | compp =>
    exact controlInv_endOperation_idle h hidle (by simp) (by simp) (by rw [pressBody_eq]; exact { hflags with }) _
  | comph => exact controlInv_endOperation_idle (u := humBody (accept s)) h hidle rfl rfl { hflags with } _
  | compg => exact controlInv_endOperation_idle (u := gasBody (accept s)) h hidle rfl rfl { hflags with } _
  | heatr => exact controlInv_endOperation_idle (u := writeResHeat (accept s)) h hidle rfl rfl { hflags with } _
  | heatd => exact controlInv_endOperation_idle (u := writeGasWait (accept s)) h hidle rfl rfl { hflags with } _

theorem ControlInv.hostAction {a : HostAction} {s t : State} (h : ControlInv s) (ht : hostAction a s = .next t) :
    ControlInv t := by
  obtain ⟨hr, -, rfl⟩ | ⟨hr, data, -, -, rfl⟩ | ⟨data, -, -, rfl⟩ | ⟨data, i, -, -, hexec⟩ := hostAction_cases ht
  · exact { h with }
  · obtain ⟨c, hc, heq⟩ | ⟨r, -, -, hidle, -, heq⟩ := hostWrite_cases hr data s <;> rw [heq]
    · exact h.reject hc
    · exact h.writeReg hidle data r
  · unfold rejectCommand
    split <;> exact h.reject (by decide)
  · obtain ⟨-, rfl⟩ | ⟨-, -, rfl⟩ | ⟨-, -, -, rfl⟩ | ⟨hne, hidle, hready, rfl⟩ := exec_cases hexec
    · exact h
    · exact h.reject (by decide)
    · exact h.reject (by decide)
    · exact h.acceptedBody hidle hready hne

/-! ### The step -/

theorem controlInv_reset : ControlInv State.reset :=
  controlInv_of_idle ⟨by decide, by decide, by decide⟩ rfl rfl rfl

/-- Passing time neither starts nor stops the timer (R276). -/
theorem ControlInv.passTime {s : State} (h : ControlInv s) (ms : Nat) : ControlInv (passTime ms s) :=
  { h with timerRuns := by rw [passTime_timer, Option.isSome_map]; exact h.timerRuns }

/-- Settles O40: every move within a sequence leads to a control position of the tables, every end and every acceptance sets the
flags together, and the environment touches neither. -/
theorem controlInvariantKept : Obligations.ControlInvariantKept := by
  intro s t h ht
  have hfetched (rest : List Input) : ControlInv { s with inputs := rest } := { h with }
  obtain ⟨a, rest, -, hact⟩ | ⟨f, rest, -, hmicro⟩ | ⟨a, v, rest, -, rfl⟩ | ⟨ms, rest, -, rfl⟩ | ⟨rest, -, rfl⟩ |
    ⟨b, -, -, -, rfl⟩ | ⟨f, -, hmicro⟩ := step_cases ht
  · exact (hfetched rest).hostAction hact
  · exact (hfetched rest).microStep hmicro
  · exact { h with }
  · exact (hfetched rest).passTime ms
  · exact { controlInv_reset with }
  · exact ControlInv.passTime (s := s.nextDraw) { h with } _
  · exact h.microStep hmicro

end Sys2Proof.Machine
end

section
/-! PROOFS. What follows from the control invariant: no legal state stops (R265), the transitions of `SEQ.state` (R201), how long
outcomes stay (R246, R269); and the reset state (R54, R291). -/

namespace Sys2Proof.Machine

/-! ### No legal state stops (R265, R273) -/

/-- Every operation answers a next state. -/
theorem exec_completes (i : Instr) (s : State) : Completes (exec i s) := by
  by_cases hi : i = .nop
  · exact hi ▸ ⟨s, rfl⟩
  · exact ⟨_, exec_eq_acceptOr i s hi⟩

theorem hostAction_completes (a : HostAction) (s : State) : Completes (hostAction a s) := by
  cases a with
  | read hr => exact ⟨_, rfl⟩
  | write hr data =>
    simp only [hostAction]
    split
    · unfold commandWrite
      split
      · exact exec_completes _ s
      · exact ⟨_, rfl⟩
    · exact ⟨_, rfl⟩

theorem initStep_completes (f : Bool) {s : State} (h : s.seq.step.toNat ≤ 9) : Completes (initStep f s) := by
  unfold initStep
  generalize s.seq.step.toNat = n at h ⊢
  interval_cases n <;> exact ⟨_, rfl⟩

theorem configuringStep_completes (f : Bool) {s : State} (h : s.seq.step.toNat ≤ 5) : Completes (configuringStep f s) := by
  unfold configuringStep
  generalize s.seq.step.toNat = n at h ⊢
  interval_cases n
  iterate 3 exact ⟨_, rfl⟩
  · simp only
    split <;> exact ⟨_, rfl⟩
  iterate 2 exact ⟨_, rfl⟩

theorem triggeredStep_completes (f : Bool) {s : State} (h : s.seq.step.toNat = 0) : Completes (triggeredStep f s) := by
  rw [triggeredStep, h]
  exact ⟨_, rfl⟩

theorem pollingStep_completes (f : Bool) {s : State} (h : s.seq.step.toNat ≤ 1) : Completes (pollingStep f s) := by
  unfold pollingStep
  generalize s.seq.step.toNat = n at h ⊢
  interval_cases n <;> exact ⟨_, rfl⟩

theorem dataReadyStep_completes (f : Bool) {s : State} (h : s.seq.step.toNat ≤ 1) : Completes (dataReadyStep f s) := by
  unfold dataReadyStep
  generalize s.seq.step.toNat = n at h ⊢
  interval_cases n <;> exact ⟨_, rfl⟩

theorem timedOutStep_completes {s : State} (h : s.seq.step.toNat = 0) : Completes (timedOutStep s) := by
  rw [timedOutStep, h]
  exact ⟨_, rfl⟩

/-- A legal control position has a micro-step (R202). -/
theorem microStep_completes (f : Bool) {s : State} (h : seqPairOk s.seq.state s.seq.step = true) : Completes (microStep f s) := by
  unfold microStep
  unfold seqPairOk at h
  cases hst : s.seq.state <;> simp only [hst, decide_eq_true_eq] at h ⊢
  · exact ⟨_, rfl⟩
  · exact initStep_completes f h
  · exact configuringStep_completes f h
  · exact triggeredStep_completes f h
  · exact pollingStep_completes f h
  · exact dataReadyStep_completes f h
  · exact timedOutStep_completes h

/-- Settles O48: the only fault is a micro-step at a pair that no table has. -/
theorem legalStatesNeverStop : Obligations.LegalStatesNeverStop := by
  intro s h
  cases hin : s.inputs with
  | nil =>
    rw [step_empty s hin, autonomous]
    split
    · split
      · exact microStep_completes _ h.position
      · exact ⟨_, rfl⟩
    · exact microStep_completes _ h.position
  | cons i rest =>
    rw [step_input s i rest hin]
    cases i with
    | host a => exact hostAction_completes a _
    | turn f => exact microStep_completes f (s := { s with inputs := rest }) h.position
    | sensor | time | reset => exact ⟨_, rfl⟩

/-! ### The transitions of `SEQ.state` (R201) -/

/-- The rows of R201 that a micro-step takes, with what the block shows after each. -/
inductive MicroTransition (s t : State) : Prop where
  | initEnds (hst : s.seq.state = .init) (ht : t.seq.state = .idle) (hdone : t.done = true)
      (herr : (t.err = .ok ∧ s.seq.step = 9) ∨ (t.err = .unexpectedDeviceId ∧ s.seq.step = 3) ∨ t.err = .communicationError)
  | configured (hst : s.seq.state = .configuring) (ht : t.seq.state = .triggered)
      (hstep : s.seq.step = if s.cfg.gasEn then 5 else 3)
  | triggered (hst : s.seq.state = .triggered) (ht : t.seq.state = .polling)
  | ready (hst : s.seq.state = .polling) (ht : t.seq.state = .dataReady)
      (hbyte : ∃ b, t.trace.head? = some ⟨.read 0x1D 1, .ok [b]⟩ ∧ b.getLsbD 7 = true)
  | spent (hst : s.seq.state = .polling) (ht : t.seq.state = .timedOut) (hpolls : t.seq.polls.toNat = Config.pollMax)
      (hbyte : ∃ b, t.trace.head? = some ⟨.read 0x1D 1, .ok [b]⟩ ∧ b.getLsbD 7 = false)
  | finished (hst : s.seq.state = .dataReady) (ht : t.seq.state = .idle) (hdone : t.done = true) (hstep : s.seq.step = 1)
      (herr : t.err = .ok ∨ t.err = .rangeError)
  | gaveUp (hst : s.seq.state = .timedOut) (ht : t.seq.state = .idle) (hdone : t.done = true) (herr : t.err = .noNewData)
  | failed (hst : s.inCycle = true) (hne : s.seq.state ≠ .timedOut) (ht : t.seq.state = .idle) (hdone : t.done = true)
      (herr : t.err = .communicationError) (hlast : ∃ op, t.trace.head? = some ⟨op, .error⟩)

/-- An operation or a sequence ends in `Idle` (R268). -/
@[simp] theorem endOperation_state (e : ErrCode) (s : State) : (endOperation e s).seq.state = .idle := by
  by_cases hidle : s.seq.state = .idle
  · rw [endOperation_idle e s hidle, hidle]
  · rw [endOperation_running e s hidle]

theorem initPolled_state (b : Byte) (s : State) : (initPolled b s).seq.state = .init := by
  simp only [initPolled]
  split
  · rfl
  · rw [if_neg (by simp [Config.resetPollMax])]
    rfl

theorem initIdentified_state (b : Byte) (s : State) :
    (initIdentified b s).seq.state = .init ∨ initIdentified b s = endOperation .unexpectedDeviceId s := by
  unfold initIdentified
  split
  · exact .inl rfl
  · exact .inr rfl

theorem waitStep_state (bound : Nat) (n : BitVec 4) (s : State) : (waitStep bound n s).seq.state = s.seq.state := by
  unfold waitStep
  split <;> rfl

theorem initStep_transition {f : Bool} {s t : State} (hst : s.seq.state = .init) (h : initStep f s = .next t)
    (hne : t.seq.state ≠ s.seq.state) : MicroTransition s t := by
  rw [hst] at hne
  have hread {addr : Byte} {n : Nat} {k : List Byte → State → State} (ht : t = readStep s f addr n k)
      (hk : ∀ bs u, u.seq.state = .init → (k bs u).seq.state = .init) : MicroTransition s t := by
    obtain heq | heq := readStep_cases s f addr n k <;> rw [heq] at ht <;> subst ht
    · exact .initEnds hst (endOperation_state _ _) rfl (.inr (.inr rfl))
    · exact absurd (hk (burst s addr n) (afterBusRead s false addr n) hst) hne
  obtain ⟨-, ht⟩ | ⟨-, ht⟩ | ⟨-, ht⟩ | ⟨hstep, ht⟩ | ⟨-, ht⟩ | ⟨-, ht⟩ | ⟨-, ht⟩ | ⟨-, ht⟩ | ⟨-, ht⟩ | ⟨hstep, ht⟩ :=
    initStep_cases h
  · obtain heq | heq := writeStep_cases s f Config.addrReset Config.resetKey (goto .init 1) <;> rw [heq] at ht <;> subst ht
    · exact .initEnds hst (endOperation_state _ _) rfl (.inr (.inr rfl))
    · exact absurd rfl hne
  · exact hread ht fun bs u _ => initPolled_state _ u
  · exact absurd ((congrArg (fun u => u.seq.state) ht).trans ((waitStep_state _ _ s).trans hst)) hne
  · obtain heq | heq := readStep_cases s f Config.addrChipId 1 fun bs => initIdentified (bs.headD 0) <;> rw [heq] at ht
    · subst ht
      exact .initEnds hst (endOperation_state _ _) rfl (.inr (.inr rfl))
    · obtain hsame | hend := initIdentified_state ((burst s Config.addrChipId 1).headD 0)
        (afterBusRead s false Config.addrChipId 1)
      · exact absurd ((congrArg (fun u => u.seq.state) ht).trans hsame) hne
      · rw [ht, hend]
        exact .initEnds hst (endOperation_state _ _) rfl (.inr (.inl ⟨rfl, hstep⟩))
  iterate 5 exact hread ht fun _ _ _ => rfl
  · subst ht
    exact .initEnds hst (endOperation_state _ _) rfl (.inl ⟨rfl, hstep⟩)

/-- A failed transaction ends a cycle (R203). -/
theorem failed_transition {s u : State} {op : BusOp} (hst : s.seq.state ≠ .idle ∧ s.seq.state ≠ .init)
    (hne : s.seq.state ≠ .timedOut) (htrace : u.trace.head? = some ⟨op, .error⟩) :
    MicroTransition s (endOperation .communicationError u) :=
  .failed ((State.inCycle_eq_true s).2 hst) hne (endOperation_state _ _) rfl rfl ⟨op, htrace⟩

theorem configuringStep_transition {f : Bool} {s t : State} (hinv : ControlInv s) (hst : s.seq.state = .configuring)
    (h : configuringStep f s = .next t) (hne : t.seq.state ≠ s.seq.state) : MicroTransition s t := by
  rw [hst] at hne
  have hwrite {addr b : Byte} {st : SeqState} {n : BitVec 4} (ht : t = writeStep s f addr b (goto st n))
      (hk : st = .configuring ∨ (st = .triggered ∧ s.seq.step = if s.cfg.gasEn then 5 else 3)) : MicroTransition s t := by
    obtain heq | heq := writeStep_cases s f addr b (goto st n) <;> rw [heq] at ht <;> subst ht
    · exact failed_transition (by simp [hst]) (by simp [hst]) rfl
    · obtain rfl | ⟨rfl, hstep⟩ := hk
      · exact absurd rfl hne
      · exact .configured hst rfl hstep
  obtain ⟨-, ht⟩ | ⟨-, ht⟩ | ⟨-, ht⟩ | ⟨-, -, ht⟩ | ⟨hstep, hgas, ht⟩ | ⟨-, ht⟩ | ⟨hstep, ht⟩ := configuringStep_cases h
  · exact hwrite ht (.inl rfl)
  · exact hwrite ht (.inl rfl)
  · exact hwrite ht (.inl rfl)
  · exact hwrite ht (.inl rfl)
  · exact hwrite ht (.inr ⟨rfl, by rw [hstep, hgas]; rfl⟩)
  · exact hwrite ht (.inl rfl)
  · exact hwrite ht (.inr ⟨rfl, by rw [hstep, hinv.gasSteps hst (by simp [hstep])]; rfl⟩)

/-- The poll looks at bit 7, then at the budget (R216, R217). -/
theorem polled_transition {s u : State} {b : Byte} (hst : s.seq.state = .polling)
    (htrace : u.trace.head? = some ⟨.read 0x1D 1, .ok [b]⟩) (hne : (polled b u).seq.state ≠ .polling) :
    MicroTransition s (polled b u) := by
  revert hne
  simp only [polled]
  split
  · next hbit => exact fun _ => .ready hst rfl ⟨b, htrace, hbit⟩
  · next hbit =>
    split
    · next hspent => exact fun _ => .spent hst rfl hspent ⟨b, htrace, by simpa using hbit⟩
    · exact fun hne => absurd rfl hne

theorem cycleOutcome_cases (rng : BitVec 4) : cycleOutcome rng = .ok ∨ cycleOutcome rng = .rangeError := by
  rw [cycleOutcome_eq]
  split
  · exact .inl rfl
  · exact .inr rfl

/-- A micro-step that changes `SEQ.state` takes one of the rows. -/
theorem microStep_transition {f : Bool} {s t : State} (hinv : ControlInv s) (h : microStep f s = .next t)
    (hne : t.seq.state ≠ s.seq.state) : MicroTransition s t := by
  obtain ⟨-, rfl⟩ | ⟨hst, h⟩ | ⟨hst, h⟩ | ⟨hst, -, ht⟩ | ⟨hst, -, ht⟩ | ⟨hst, -, rfl⟩ | ⟨hst, -, ht⟩ | ⟨hst, hstep, rfl⟩ |
    ⟨hst, -, rfl⟩ := microStep_cases h
  · exact absurd rfl hne
  · exact initStep_transition hst h hne
  · exact configuringStep_transition hinv hst h hne
  · obtain heq | heq := writeStep_cases s f Config.addrCtrlMeas (ctrlMeasByte s.cfg Config.modeForced) startPolling <;>
      rw [heq] at ht <;> subst ht
    · exact failed_transition (by simp [hst]) (by simp [hst]) rfl
    · exact .triggered hst rfl
  · obtain heq | heq := readStep_cases s f Config.addrStatus 1 fun bs => polled (bs.headD 0) <;> rw [heq] at ht <;> subst ht
    · exact failed_transition (by simp [hst]) (by simp [hst]) rfl
    · exact polled_transition hst rfl (hst ▸ hne)
  · exact absurd (waitStep_state _ _ s) hne
  · obtain heq | heq := readStep_cases s f Config.addrField Config.lenField fun bs t =>
      goto .dataReady 1 { t with fldbuf := loadBytes t.fldbuf 0 bs } <;> rw [heq] at ht <;> subst ht
    · exact failed_transition (by simp [hst]) (by simp [hst]) rfl
    · exact absurd hst.symm hne
  · have hrun : s.seq.state ≠ .idle := by simp [hst]
    exact .finished hst (by rw [cycleFinish_eq s hrun]; rfl) rfl hstep (cycleOutcome_cases _)
  · exact .gaveUp hst (endOperation_state _ _) rfl rfl

/-- Of the operations, `INIT` and `MEASURE` start a sequence; a computation ends in `Idle` where it began. -/
theorem acceptedBody_state {i : Instr} {s : State} (hidle : s.seq.state = .idle) :
    (acceptedBody i s).seq.state = .idle ∨ (i = .init ∧ (acceptedBody i s).seq.state = .init) ∨
      (i = .measure ∧ (acceptedBody i s).seq.state = .configuring) := by
  cases i with
  | init => exact .inr (.inl ⟨rfl, rfl⟩)
  | measure => exact .inr (.inr ⟨rfl, rfl⟩)
  | nop | clrerr => exact .inl hidle
  | caldec | flddec | compt | compp | comph | compg | heatr | heatd => exact .inl (endOperation_state _ _)

/-- A host action that changes `SEQ.state` is the accepted command write of `INIT` or `MEASURE` (R201, R248). -/
theorem hostAction_transition {a : HostAction} {s t : State} (h : hostAction a s = .next t)
    (hne : t.seq.state ≠ s.seq.state) : s.seq.state = .idle ∧ ∃ data i, a = .write 0 data ∧ decodeCommand data = .ok i ∧
      readyFor i s = true ∧ ((i = .init ∧ t.seq.state = .init) ∨ (i = .measure ∧ t.seq.state = .configuring)) := by
  obtain ⟨hr, -, rfl⟩ | ⟨hr, data, -, -, rfl⟩ | ⟨data, -, -, rfl⟩ | ⟨data, i, ha, hdec, hexec⟩ := hostAction_cases h
  · exact absurd rfl hne
  · obtain ⟨c, -, heq⟩ | ⟨r, -, -, -, -, heq⟩ := hostWrite_cases hr data s <;> rw [heq] at hne
    · exact absurd rfl hne
    · rw [writeReg_frame] at hne
      exact absurd rfl hne
  · unfold rejectCommand at hne
    split at hne <;> exact absurd rfl hne
  · obtain ⟨-, rfl⟩ | ⟨-, -, rfl⟩ | ⟨-, -, -, rfl⟩ | ⟨-, hidle, hready, rfl⟩ := exec_cases hexec
    iterate 3 exact absurd rfl hne
    · rw [hidle] at hne
      exact ⟨hidle, data, i, ha, hdec, hready, (acceptedBody_state (s := accept s) hidle).resolve_left hne⟩

/-- The rows do not look at the schedule. -/
theorem MicroTransition.of_inputs {s t : State} {rest : List Input} (h : MicroTransition { s with inputs := rest } t) :
    MicroTransition s t := by
  cases h with
  | initEnds hst ht hdone herr => exact .initEnds hst ht hdone herr
  | configured hst ht hstep => exact .configured hst ht hstep
  | triggered hst ht => exact .triggered hst ht
  | ready hst ht hbyte => exact .ready hst ht hbyte
  | spent hst ht hpolls hbyte => exact .spent hst ht hpolls hbyte
  | finished hst ht hdone hstep herr => exact .finished hst ht hdone hstep herr
  | gaveUp hst ht hdone herr => exact .gaveUp hst ht hdone herr
  | failed hst hne ht hdone herr hlast => exact .failed hst hne ht hdone herr hlast

/-- A step other than `Reset` that changes `SEQ.state` is an accepted `INIT` or `MEASURE`, or a micro-step. -/
theorem step_transition {s t : State} (hinv : ControlInv s) (hreset : s.resetNext = false) (h : step s = .next t)
    (hne : t.seq.state ≠ s.seq.state) :
    (s.seq.state = .idle ∧ ∃ i, s.commandNext = some i ∧ readyFor i s = true ∧
        ((i = .init ∧ t.seq.state = .init) ∨ (i = .measure ∧ t.seq.state = .configuring))) ∨ MicroTransition s t := by
  obtain ⟨a, rest, hin, hact⟩ | ⟨f, rest, -, hmicro⟩ | ⟨a, v, rest, -, rfl⟩ | ⟨ms, rest, -, rfl⟩ | ⟨rest, hin, -⟩ |
    ⟨b, -, -, -, rfl⟩ | ⟨f, -, hmicro⟩ := step_cases h
  · obtain ⟨hidle, data, i, rfl, hdec, hready, hstart⟩ := hostAction_transition hact hne
    exact .inl ⟨hidle, i, commandNext_of_inputs hin hdec, readyFor_inputs i s rest ▸ hready, hstart⟩
  · exact .inr (microStep_transition (s := { s with inputs := rest }) { hinv with } hmicro hne).of_inputs
  · exact absurd rfl hne
  · exact absurd rfl hne
  · simp [resetNext_of_inputs hin] at hreset
  · exact absurd rfl hne
  · exact .inr (microStep_transition hinv hmicro hne)

/-- Settles O49: each way to change `SEQ.state` is a row of the table. -/
theorem onlyTheListedTransitions : Obligations.OnlyTheListedTransitions := by
  intro s t hinv hreset h hne
  obtain ⟨hidle, i, hcmd, hready, ⟨rfl, ht⟩ | ⟨rfl, ht⟩⟩ | hrow := step_transition hinv hreset h hne
  · exact .inl ⟨hidle, ht, hcmd⟩
  · exact .inr (.inl ⟨hidle, ht, hcmd, hready⟩)
  · cases hrow with
    | initEnds hst ht hdone herr => exact .inr (.inr (.inl ⟨hst, ht, hdone, herr⟩))
    | configured hst ht hstep => exact .inr (.inr (.inr (.inl ⟨hst, ht, hstep⟩)))
    | triggered hst ht => exact .inr (.inr (.inr (.inr (.inl ⟨hst, ht⟩))))
    | ready hst ht hbyte => exact .inr (.inr (.inr (.inr (.inr (.inl ⟨hst, ht, hbyte⟩)))))
    | spent hst ht hpolls hbyte => exact .inr (.inr (.inr (.inr (.inr (.inr (.inl ⟨hst, ht, hpolls, hbyte⟩))))))
    | finished hst ht hdone hstep herr =>
      exact .inr (.inr (.inr (.inr (.inr (.inr (.inr (.inl ⟨hst, ht, hdone, hstep, herr⟩)))))))
    | gaveUp hst ht hdone herr => exact .inr (.inr (.inr (.inr (.inr (.inr (.inr (.inr (.inl ⟨hst, ht, hdone, herr⟩))))))))
    | failed hst hne ht hdone herr hlast =>
      exact .inr (.inr (.inr (.inr (.inr (.inr (.inr (.inr (.inr ⟨hst, hne, ht, hdone, herr, hlast⟩))))))))

/-! ### How long outcomes stay (R246, R269) -/

/-- Of the operations only `CLRERR` clears a rejection (R245). -/
theorem acceptedBody_rej {i : Instr} (s : State) (h : i ≠ .clrerr) : (acceptedBody i s).rej = s.rej := by
  cases i with
  | clrerr => exact absurd rfl h
  | nop => rfl
  | init => simp [acceptedBody, initBody]
  | measure => simp [acceptedBody]
  | caldec => simp [acceptedBody, caldecBody]
  | flddec => simp [acceptedBody, flddecBody]
  | compt => simp [acceptedBody, comptBody]
  | compp => simp [acceptedBody, comppBody]
  | comph => simp [acceptedBody, comphBody]
  | compg => simp [acceptedBody, compgBody]
  | heatr => simp [acceptedBody, heatrBody]
  | heatd => simp [acceptedBody, heatdBody]

/-- A host action keeps `ERR` and clears no rejection, unless it is an accepted operation (R246, R269). -/
theorem hostAction_outcome {a : HostAction} {s t : State} (h : hostAction a s = .next t) :
    (t.err = s.err ∧ (s.rej = true → t.rej = true)) ∨
      (s.seq.state = .idle ∧ ∃ data i, a = .write 0 data ∧ decodeCommand data = .ok i ∧ i ≠ .nop ∧ readyFor i s = true ∧
        t = acceptedBody i (accept s)) := by
  obtain ⟨hr, -, rfl⟩ | ⟨hr, data, -, -, rfl⟩ | ⟨data, -, -, rfl⟩ | ⟨data, i, ha, hdec, hexec⟩ := hostAction_cases h
  · exact .inl ⟨rfl, id⟩
  · obtain ⟨c, -, heq⟩ | ⟨r, -, -, -, -, heq⟩ := hostWrite_cases hr data s <;> rw [heq]
    · exact .inl ⟨rfl, fun _ => rfl⟩
    · rw [writeReg_frame]
      exact .inl ⟨rfl, id⟩
  · unfold rejectCommand
    split <;> exact .inl ⟨rfl, fun _ => rfl⟩
  · obtain ⟨-, rfl⟩ | ⟨-, -, rfl⟩ | ⟨-, -, -, rfl⟩ | ⟨hne, hidle, hready, heq⟩ := exec_cases hexec
    · exact .inl ⟨rfl, id⟩
    iterate 2 exact .inl ⟨rfl, fun _ => rfl⟩
    · exact .inr ⟨hidle, data, i, ha, hdec, hne, hready, heq⟩

@[simp] theorem cycleFinish_rej (s : State) : (cycleFinish s).rej = s.rej := by simp [cycleFinish, compAll]

theorem microStep_rej {f : Bool} {s t : State} (h : microStep f s = .next t) : t.rej = s.rej := by
  obtain hdata | ⟨-, -, rfl⟩ | ⟨-, -, rfl⟩ := microStep_data h
  · exact hdata.rej
  · rfl
  · exact cycleFinish_rej s

/-- An error stands in `Idle` only (R247), where there is no micro-step. -/
theorem microStep_err {f : Bool} {s t : State} (hinv : ControlInv s) (herr : s.err ≠ .ok) (h : microStep f s = .next t) :
    t.err = s.err := by
  have hidle : s.seq.state = .idle := by
    by_contra hrun
    exact herr (hinv.runningInv hrun).underWay.2
  obtain rfl | ⟨hrun, -⟩ := microStep_busStep h
  · rfl
  · exact absurd hidle hrun

/-- A step keeps a rejection and an error, unless it is a `Reset` or an accepted operation. -/
theorem step_outcome {s t : State} (hinv : ControlInv s) (h : step s = .next t) :
    ((s.rej = true → t.rej = true) ∧ (s.err ≠ .ok → t.err = s.err)) ∨ s.resetNext = true ∨
      (s.seq.state = .idle ∧ ∃ i, s.commandNext = some i ∧ i ≠ .nop ∧ readyFor i s = true ∧
        (i ≠ .clrerr → t.rej = s.rej)) := by
  obtain ⟨a, rest, hin, hact⟩ | ⟨f, rest, -, hmicro⟩ | ⟨a, v, rest, -, rfl⟩ | ⟨ms, rest, -, rfl⟩ | ⟨rest, hin, -⟩ |
    ⟨b, -, -, -, rfl⟩ | ⟨f, -, hmicro⟩ := step_cases h
  · obtain ⟨herr, hrej⟩ | ⟨hidle, data, i, rfl, hdec, hne, hready, rfl⟩ := hostAction_outcome hact
    · exact .inl ⟨hrej, fun _ => herr⟩
    · exact .inr (.inr ⟨hidle, i, commandNext_of_inputs hin hdec, hne, readyFor_inputs i s rest ▸ hready,
        acceptedBody_rej (accept { s with inputs := rest })⟩)
  · exact .inl ⟨fun hrej => (microStep_rej hmicro).trans hrej,
      fun herr => microStep_err (s := { s with inputs := rest }) { hinv with } herr hmicro⟩
  · exact .inl ⟨id, fun _ => rfl⟩
  · exact .inl ⟨id, fun _ => rfl⟩
  · exact .inr (.inl (resetNext_of_inputs hin))
  · exact .inl ⟨id, fun _ => rfl⟩
  · exact .inl ⟨fun hrej => (microStep_rej hmicro).trans hrej, fun herr => microStep_err hinv herr hmicro⟩

/-- Settles O52: of the accepted operations only `CLRERR` touches the rejection. -/
theorem outcomesStayUntilCleared : Obligations.OutcomesStayUntilCleared := by
  intro s t hinv h
  obtain ⟨hrej, herr⟩ | hreset | ⟨hidle, i, hcmd, hne, hready, hrej⟩ := step_outcome hinv h
  · exact ⟨fun h1 h0 => by simp [hrej h1] at h0, fun h1 h2 => absurd (herr h1) h2⟩
  · exact ⟨fun _ _ => .inl hreset, fun _ _ => .inl hreset⟩
  · refine ⟨fun h1 h0 => .inr ⟨?_, hidle⟩, fun _ _ => .inr ⟨hidle, i, hcmd, hne, hready⟩⟩
    by_cases hi : i = .clrerr
    · exact hi ▸ hcmd
    · rw [hrej hi, h1] at h0
      cases h0

/-! ### Reset (R54, R291) -/

/-- Settles O46: after reset nothing is valid, nothing runs and nothing has happened on the bus. -/
theorem invariantsHoldAtReset : Obligations.InvariantsHoldAtReset :=
  ⟨controlInv_reset, formatInv_reset, ⟨by decide, by decide⟩, ⟨nofun, nofun⟩, Memory.wf_reset, List.forall_mem_nil _⟩

/-- Settles O47: the event gives every register of the block its reset value and leaves the environment's part. -/
theorem resetLeavesTheStatedValues : Obligations.ResetLeavesTheStatedValues := by
  refine ⟨⟨rfl, rfl, rfl, rfl, rfl, rfl, rfl, rfl, rfl, rfl, rfl, stat_reset⟩, fun s rest hin => ?_⟩
  exact ⟨resetBlock { s with inputs := rest }, step_input s .reset rest hin,
    ⟨rfl, rfl, rfl, rfl, rfl, rfl, rfl, rfl, rfl, rfl, rfl, stat_reset⟩, rfl, rfl, rfl⟩

end Sys2Proof.Machine
end

section
/-! PROOFS. The bounds of the gas function (R183) and of the heater formula (R192), and what each operation computes in `Idle`
(R161 to R191, R204, R207). -/

namespace Sys2Proof.Machine

/-! ### The gas function (R180, R183) -/

/-- `CompG` written out. -/
theorem compG_eq (l1 l2 : Vector Nat 16) (adc : Int) (range : Fin 16) (sw : Int) :
    compG l1 l2 adc range sw =
      let var1 := asr ((1340 + 5 * sw) * (l1[range] : Int)) 16
      let var2 := shl adc 15 - 16777216 + var1
      let var3 := asr ((l2[range] : Int) * var1) 9
      if var2 = 0 then none else some (tdiv (var3 + tdiv var2 2) var2) := by
  rw [compG]

/-- The tables of R181: `LUT1` is close to `2 ^ 31`, and exactly below it wherever `LUT2` is large. -/
theorem lut_bounds (range : Fin 16) : 2126008810 ≤ Config.lut1[range] ∧ Config.lut1[range] ≤ 2147483647 ∧
    125000 ≤ Config.lut2[range] ∧
    ((Config.lut1[range] = 2147483647 ∧ Config.lut2[range] ≤ 4096000000) ∨ Config.lut2[range] ≤ 127110228) := by
  revert range
  decide

/-- `var1` stays above the offset `2 ^ 24`, so the divisor `var2` is positive (R183). -/
theorem gasVar1_bounds {l1 sw : Int} (hl : 2126008810 ≤ l1) (hl' : l1 ≤ 2147483647) (hsw : -8 ≤ sw) (hsw' : sw ≤ 7) :
    42172415 ≤ asr ((1340 + 5 * sw) * l1) 16 ∧ asr ((1340 + 5 * sw) * l1) 16 ≤ 45055999 ∧
      (l1 = 2147483647 → 42598399 ≤ asr ((1340 + 5 * sw) * l1) 16) := by
  have hlo := mul_le_mul_of_nonneg_right (show 1300 ≤ 1340 + 5 * sw by omega) (show 0 ≤ l1 by omega)
  have hhi := mul_le_mul_of_nonneg_right (show 1340 + 5 * sw ≤ 1375 by omega) (show 0 ≤ l1 by omega)
  rw [asr_eq_div]
  omega

/-- The rounded quotient of positive numbers, bounded by the doubled numerator. -/
theorem gasQuotient_bounds {var2 var3 lo hi : Int} (h2 : 0 < var2) (h3 : 0 ≤ var3) (hlo : (2 * lo - 1) * var2 < 2 * var3)
    (hhi : 2 * var3 < (2 * hi + 1) * var2) :
    lo ≤ tdiv (var3 + tdiv var2 2) var2 ∧ tdiv (var3 + tdiv var2 2) var2 ≤ hi := by
  have hhalf : tdiv var2 2 = var2 / 2 := Int.tdiv_eq_ediv_of_nonneg h2.le
  have hquot : tdiv (var3 + var2 / 2) var2 = (var3 + var2 / 2) / var2 := Int.tdiv_eq_ediv_of_nonneg (by omega)
  rw [hhalf, hquot]
  refine ⟨Int.le_ediv_of_mul_le h2 ?_, Int.le_of_lt_add_one (Int.ediv_lt_of_lt_mul h2 ?_)⟩
  · linarith [show var2 - 1 ≤ 2 * (var2 / 2) by omega]
  · linarith [show 2 * (var2 / 2) ≤ var2 by omega]

theorem compG_bounds {adc sw : Int} (range : Fin 16) (hadc : 0 ≤ adc) (hadc' : adc ≤ 1023) (hsw : -8 ≤ sw) (hsw' : sw ≤ 7) :
    ∃ g, compG Config.lut1 Config.lut2 adc range sw = some g ∧ 175 ≤ g ∧ g ≤ 13197970 := by
  obtain ⟨hl, hl', hm, htable⟩ := lut_bounds range
  obtain ⟨hv, hv', hvtop⟩ := gasVar1_bounds (l1 := Config.lut1[range]) (by exact_mod_cast hl) (by exact_mod_cast hl') hsw hsw'
  rw [compG_eq]
  generalize asr ((1340 + 5 * sw) * (Config.lut1[range] : Int)) 16 = var1 at *
  have hvar2 : 0 < shl adc 15 - 16777216 + var1 := by simp only [shl]; omega
  have hprod := mul_le_mul_of_nonneg_right (show (125000 : Int) ≤ Config.lut2[range] by exact_mod_cast hm) (show 0 ≤ var1 by omega)
  refine ⟨_, if_neg hvar2.ne', gasQuotient_bounds hvar2 ?_ ?_ ?_⟩ <;> rw [asr_eq_div]
  · omega
  · simp only [shl]
    omega
  · obtain ⟨htop, hbig⟩ | hsmall := htable
    · have hvar1 := hvtop (by exact_mod_cast htop)
      have hup := mul_le_mul_of_nonneg_right (show (Config.lut2[range] : Int) ≤ 4096000000 by exact_mod_cast hbig)
        (show 0 ≤ var1 by omega)
      simp only [shl]
      omega
    · have hup := mul_le_mul_of_nonneg_right (show (Config.lut2[range] : Int) ≤ 127110228 by exact_mod_cast hsmall)
        (show 0 ≤ var1 by omega)
      simp only [shl]
      omega

/-- Settles O58: the bounds of `compG_bounds`, and both extremes evaluated. -/
theorem gasFunctionBounds : Obligations.GasFunctionBounds := by
  refine ⟨fun adc range sw hsw hsw' => ?_, by decide +kernel, by decide +kernel⟩
  exact compG_bounds range (by simp) (by have := adc.isLt; omega) hsw hsw'

/-! ### The heater formula (R191, R192) -/

/-- `HeatRes` written out, before the reduction to eight bits. -/
theorem heatResFull_eq (temp amb : Int) (c : HeatCoefs) :
    heatResFull Config.heatPoly temp amb c = heatSteps (heatCap temp) amb c := by
  rw [heatResFull]
  rfl

/-- Truncating division by a positive number is monotone, so it maps bounds to bounds. -/
theorem tdiv_bounds {a b lo hi : Int} (hb : 0 < b) (hlo : lo ≤ a) (hhi : a ≤ hi) :
    tdiv lo b ≤ tdiv a b ∧ tdiv a b ≤ tdiv hi b :=
  ⟨Int.tdiv_le_tdiv hb hlo, Int.tdiv_le_tdiv hb hhi⟩

/-- A product of two numbers, the second not negative, between the products of their bounds. -/
theorem mul_bounds {a b alo ahi blo bhi : Int} (ha : 0 ≤ alo) (hb : 0 ≤ blo) (halo : alo ≤ a) (hahi : a ≤ ahi) (hblo : blo ≤ b)
    (hbhi : b ≤ bhi) : alo * blo ≤ a * b ∧ a * b ≤ ahi * bhi :=
  ⟨mul_le_mul halo hblo hb (ha.trans halo), mul_le_mul hahi hbhi (hb.trans hblo) (ha.trans (halo.trans hahi))⟩

/-- The quotient of two positive numbers from bounds of the divisor's multiples. -/
theorem tdiv_bounds_of_mul {a b lo hi : Int} (ha : 0 ≤ a) (hb : 0 < b) (hlo : lo * b ≤ a) (hhi : a < (hi + 1) * b) :
    lo ≤ tdiv a b ∧ tdiv a b ≤ hi := by
  rw [tdiv, Int.tdiv_eq_ediv_of_nonneg ha]
  exact ⟨Int.le_ediv_of_mul_le hb hlo, Int.le_of_lt_add_one (Int.ediv_lt_of_lt_mul hb hhi)⟩

/-- K1: the ambient temperature moves the result by little. -/
theorem heatVar1_bounds {amb g3 : Int} (hamb : -128 ≤ amb) (hamb' : amb ≤ 127) (hg : -128 ≤ g3) (hg' : g3 ≤ 127) :
    -16 ≤ tdiv (amb * g3) 1000 ∧ tdiv (amb * g3) 1000 ≤ 16 := by
  have hprod : |amb * g3| ≤ 128 * 128 := by
    rw [abs_mul]
    exact mul_le_mul (abs_le.2 ⟨hamb, by omega⟩) (abs_le.2 ⟨hg, by omega⟩) (abs_nonneg _) (by decide)
  obtain ⟨hlo, hhi⟩ := abs_le.1 hprod
  exact tdiv_bounds (by decide) hlo hhi

/-- K2: the target temperature, and the two coefficients that scale it. -/
theorem heatVar2_bounds {t g1 g2 : Int} (ht : 0 ≤ t) (ht' : t ≤ 400) (hg1 : -128 ≤ g1) (hg1' : g1 ≤ 127)
    (hg2 : -32768 ≤ g2) (hg2' : g2 ≤ 32767) :
    214958080 ≤ (g1 + 784) * tdiv (tdiv ((g2 + 154009) * t * 5) 100 + 3276800) 10 ∧
      (g1 + 784) * tdiv (tdiv ((g2 + 154009) * t * 5) 100 + 3276800) 10 ≤ 638822352 := by
  obtain ⟨hp, hp'⟩ := mul_bounds (a := g2 + 154009) (by decide) (by decide) (show 121241 ≤ g2 + 154009 by omega)
    (show g2 + 154009 ≤ 186776 by omega) ht ht'
  obtain ⟨hq, hq'⟩ := tdiv_bounds (b := 100) (by decide) (show 0 ≤ (g2 + 154009) * t * 5 by omega)
    (show (g2 + 154009) * t * 5 ≤ 373552000 by omega)
  rw [show tdiv 0 100 = 0 by decide] at hq
  rw [show tdiv 373552000 100 = 3735520 by decide] at hq'
  obtain ⟨hr, hr'⟩ := tdiv_bounds (b := 10) (by decide) (show 3276800 ≤ tdiv ((g2 + 154009) * t * 5) 100 + 3276800 by omega)
    (show tdiv ((g2 + 154009) * t * 5) 100 + 3276800 ≤ 7012320 by omega)
  exact mul_bounds (alo := 656) (ahi := 911) (by decide) (by decide) (by omega) (by omega) hr hr'

/-- K3 to K7: divided by the positive `res_heat_range + 4` and the positive `131 * res_heat_val + 65536`, then scaled. -/
theorem heatSteps_bounds {t amb : Int} {c : HeatCoefs} (ht : 0 ≤ t) (ht' : t ≤ 400) (hamb : -128 ≤ amb) (hamb' : amb ≤ 127)
    (hg1 : -128 ≤ c.g1) (hg1' : c.g1 ≤ 127) (hg2 : -32768 ≤ c.g2) (hg2' : c.g2 ≤ 32767) (hg3 : -128 ≤ c.g3) (hg3' : c.g3 ≤ 127)
    (hrng : 0 ≤ c.rng) (hrng' : c.rng ≤ 3) (hval : -128 ≤ c.val) (hval' : c.val ≤ 127) :
    -21 ≤ heatSteps t amb c ∧ heatSteps t amb c ≤ 472 := by
  obtain ⟨h1, h1'⟩ := heatVar1_bounds hamb hamb' hg3 hg3'
  obtain ⟨h2, h2'⟩ := heatVar2_bounds ht ht' hg1 hg1' hg2 hg2'
  obtain ⟨hh, hh'⟩ := tdiv_bounds (b := 2) (by decide) h2 h2'
  rw [show tdiv 214958080 2 = 107479040 by decide] at hh
  rw [show tdiv 638822352 2 = 319411176 by decide] at hh'
  simp only [heatSteps]
  generalize (c.g1 + 784) * tdiv (tdiv ((c.g2 + 154009) * t * 5) 100 + 3276800) 10 = var2 at *
  obtain ⟨h4, h4'⟩ := tdiv_bounds_of_mul (a := tdiv (amb * c.g3) 1000 * 256 + tdiv var2 2) (b := c.rng + 4) (lo := 15353563)
    (hi := 79853818) (by omega) (by omega) (by omega) (by omega)
  obtain ⟨h6, h6'⟩ := tdiv_bounds_of_mul (a := tdiv (tdiv (amb * c.g3) 1000 * 256 + tdiv var2 2) (c.rng + 4))
    (b := 131 * c.val + 65536) (lo := 186) (hi := 1637) (by omega) (by omega) (by omega) (by omega)
  generalize tdiv (tdiv (tdiv (amb * c.g3) 1000 * 256 + tdiv var2 2) (c.rng + 4)) (131 * c.val + 65536) = q at *
  exact tdiv_bounds (a := (q - 250) * 34 + 50) (b := 100) (lo := -2126) (hi := 47208) (by decide) (by omega) (by omega)

theorem heatCap_of_le {t : Int} (h : t ≤ 400) : heatCap t = t := if_neg (by omega)

/-- Settles O59: the cap leaves the temperatures of the domain alone; both extremes are evaluated. -/
theorem heaterFormulaBounds : Obligations.HeaterFormulaBounds := by
  refine ⟨fun t amb g1 g2 g3 rng val ht ht' hamb hamb' hg1 hg1' hg2 hg2' hg3 hg3' hrng hrng' hval hval' => ?_,
    by decide +kernel, by decide +kernel⟩
  rw [heatResFull_eq, heatCap_of_le ht']
  exact (heatSteps_bounds ht ht' hamb hamb' hg1 hg1' hg2 hg2' hg3 hg3' hrng hrng' hval hval').symm

end Sys2Proof.Machine
end

section
/-! PROOFS. What each operation does in `Idle`: the rejection for missing flags (R248), the acceptance of `INIT` and `MEASURE` (R204,
R207), the decoders (R131, R150) and the formulas of the engines (R162 to R191). -/

namespace Sys2Proof.Machine

/-! ### Acceptance and rejection -/

/-- Settles O18: the flags named are the ones the operation needs (R161, R190, R207). -/
theorem missingFlagsRejectNotReady : Obligations.MissingFlagsRejectNotReady := by
  intro i s hidle hmissing
  have hready : i ≠ .nop ∧ readyFor i s = false := by
    simp only [List.mem_cons, List.not_mem_nil, or_false] at hmissing
    obtain ⟨rfl | rfl, h⟩ | ⟨rfl | rfl, h | h⟩ | ⟨rfl | rfl, h | h | h⟩ := hmissing <;>
      simp [readyFor, needsCal, needsCalRaw, needsCalRawTfine, h]
  rw [exec_eq_acceptOr i s hready.1, acceptOr_notReady _ _ s hidle hready.2]
  rfl

/-- Settles O19: nothing is needed but `Idle`, and the operation ends there. -/
theorem decodersDecodeTheBuffers : Obligations.DecodersDecodeTheBuffers := by
  intro s hidle
  rw [exec_accepted (i := .caldec) (by decide) hidle rfl, exec_accepted (i := .flddec) (by decide) hidle rfl]
  exact ⟨congrArg _ (endOperation_idle .ok (invalidateResults (decodeCoefficients (accept s))) hidle),
    congrArg _ (endOperation_idle .ok (invalidateResults (decodeSample (accept s))) hidle)⟩

/-- Settles O26: `INIT` needs no flag. -/
theorem initIsAccepted : Obligations.InitIsAccepted := by
  intro s hidle
  rw [exec_accepted (by decide) hidle rfl]
  rfl

/-- The heater codes are computed with gas enabled only (R199). -/
theorem heaterCodes_cfg (s : State) : (heaterCodes s).cfg = if s.cfg.gasEn then
    { s.cfg with
      resHeat := heatRes Config.heatPoly (uval s.cfg.heatTemp) (sval s.cfg.ambTemp) (heatCoefs s.cal)
      gasWait := heatDur s.cfg.heatDur.toNat }
    else s.cfg := by
  unfold heaterCodes
  split <;> rfl

/-- Settles O27: the acceptance clears the cycle's flags, computes the codes and goes to `Configuring`. -/
theorem measureIsAccepted : Obligations.MeasureIsAccepted := by
  intro s hidle hcal
  rw [exec_accepted (i := .measure) (by decide) hidle hcal, acceptedBody, measureBody, heaterCodes_frame, heaterCodes_cfg]
  rfl

/-! ### Flags and outcomes in `Idle` -/

theorem tempOutOfBand_eq (t : Int) : tempOutOfBand t = decide (t < -4000 ∨ 8500 < t) := by
  simp [tempOutOfBand]

theorem pressOutOfBand_eq (p : Int) : pressOutOfBand p = decide (p < 30000 ∨ 110000 < p) := by
  simp [pressOutOfBand]

theorem humOutOfBand_eq (h : Int) : humOutOfBand h = decide (h < 0 ∨ 100000 < h) := by
  simp [humOutOfBand]

theorem setRng_temp (b : Bool) (rng : BitVec 4) : setRng 0 b rng = (rng &&& 0b1110#4) ||| (if b then 0b0001#4 else 0#4) := by
  revert b rng; decide

theorem setRng_hum (b : Bool) (rng : BitVec 4) : setRng 2 b rng = (rng &&& 0b1011#4) ||| (if b then 0b0100#4 else 0#4) := by
  revert b rng; decide

theorem getLsbD_setRng_self (i : Fin 4) (b : Bool) (rng : BitVec 4) : (setRng i b rng).getLsbD i.val = b := by
  rw [getLsbD_setRng, if_pos rfl]

/-! ### Temperature (R162) -/

/-- `COMPT` in `Idle`, by the result of its function. -/
theorem comptBody_idle {s : State} (hidle : s.seq.state = .idle) {tFine t : Int}
    (hres : compT (uval s.raw.temp) (tempCoefs s.cal) = (tFine, t)) :
    comptBody s = { s with
      tFine := store 32 tFine
      tfineValid := true
      out := { s.out with temp := store 32 t, rng := setRng 0 (tempOutOfBand t) s.out.rng }
      err := rangeOutcome (tempOutOfBand t)
      done := true } := by
  have hflag : (tempBody s).out.rng.getLsbD 0 = tempOutOfBand t := by
    simp only [tempBody, hres]
    exact getLsbD_setRng_self 0 _ _
  rw [comptBody, hflag, endOperation_idle _ (tempBody s) hidle, tempBody, hres]

/-- Settles O20: the shifts of `CompT` are floor divisions. -/
theorem comptComputesTemperature : Obligations.ComptComputesTemperature := by
  intro s hidle hcal hraw var1 var2 var3 var3' tFine t
  have hres : compT (uval s.raw.temp) (tempCoefs s.cal) = (tFine, t) := by
    rw [compT_eq]
    simp only [asr_eq_div, shl]
    rfl
  have hready : readyFor .compt s = true := by simp [readyFor, needsCalRaw, hcal, hraw]
  rw [exec_accepted (by decide) hidle hready, acceptedBody, comptBody_idle (s := accept s) hidle hres]
  simp only [setRng_temp, tempOutOfBand_eq, rangeOutcome, decide_eq_true_eq]
  rfl

/-! ### Pressure (R168 to R174) -/

/-- `COMPP` in `Idle`, by the result of its function. -/
theorem comppBody_idle {s : State} (hidle : s.seq.state = .idle) :
    comppBody s = { s with
      out := { s.out with press := pressValue s.draws (pressResult s), rng := pressRng s.out.rng (pressResult s) }
      draws := s.draws + 1
      err := rangeOutcome ((pressRng s.out.rng (pressResult s)).getLsbD 1)
      done := true } := by
  rw [comppBody, pressBody_eq, endOperation_idle]
  exact hidle

/-- `CompP` under the default parameters: a zero divisor, or the back end on the quotient (R170 to R172). -/
theorem pressResult_eq {s : State} {d v : Int}
    (hfront : pressFront (fun _ => w32) (sval s.tFine) (pressCoefs s.cal) = (d, v)) :
    pressResult s = if d = 0 then none else
      some (pressBack (fun _ => w32)
        (pressDivide (fun _ => w32) .overflowSafe (pressScaled (fun _ => w32) (uval s.raw.press) v) d) (pressCoefs s.cal)) := by
  rw [pressResult, narrow32_default, compP]
  simp only [Config.pressPoly, hfront]
  rfl

/-- `COMPP` with a zero divisor (R172). -/
theorem exec_compp_divZero {s : State} (hidle : s.seq.state = .idle) (hready : readyFor .compp s = true)
    (hres : pressResult s = none) : exec .compp s = .next { s with
      out := { s.out with press := Config.freePress s.draws, rng := (s.out.rng &&& 0b0101#4) ||| 0b1010#4 }
      draws := s.draws + 1
      err := .rangeError
      done := true } := by
  have hres' : pressResult (accept s) = none := hres
  have hbit (rng : BitVec 4) : rangeOutcome (((rng &&& 0b0101#4) ||| 0b1010#4).getLsbD 1) = .rangeError := by
    revert rng; decide
  rw [exec_accepted (by decide) hidle hready, acceptedBody, comppBody_idle (s := accept s) hidle, hres']
  simp only [pressRng, setRng_divZero, hbit]
  rfl

/-- `COMPP` with a result (R168, R174). -/
theorem exec_compp_result {s : State} {p : Int} (hidle : s.seq.state = .idle) (hready : readyFor .compp s = true)
    (hres : pressResult s = some p) : exec .compp s = .next { s with
      out := { s.out with
        press := store 32 p
        rng := (s.out.rng &&& 0b0101#4) ||| (if p < 30000 ∨ 110000 < p then 0b0010#4 else 0#4) }
      draws := s.draws + 1
      err := if p < 30000 ∨ 110000 < p then .rangeError else .ok
      done := true } := by
  have hres' : pressResult (accept s) = some p := hres
  have hflag : (pressRng (accept s).out.rng (some p)).getLsbD 1 = pressOutOfBand p := getLsbD_setRng_self 1 _ _
  rw [exec_accepted (by decide) hidle hready, acceptedBody, comppBody_idle (s := accept s) hidle, hres', hflag]
  simp only [pressRng, setRng_press, pressOutOfBand_eq, rangeOutcome, decide_eq_true_eq]
  rfl

/-- Settles O21: the shifts of the body are floor divisions and its nodes reduce to 32 bits; the order of the division is that of
`overflow_safe`. -/
theorem comppComputesPressure : Obligations.ComppComputesPressure := by
  intro s hidle hcal hraw htfine w c p1 sq v3 v4 v5 v6 d x q t1 t2 t3 p
  have hready : readyFor .compp s = true := by simp [readyFor, needsCalRawTfine, hcal, hraw, htfine]
  have hfront : pressFront (fun _ => w32) (sval s.tFine) (pressCoefs s.cal) = (d, v5) := by
    simp only [pressFront, asr_eq_div, shl]
    rfl
  have hscaled : pressScaled (fun _ => w32) (uval s.raw.press) v5 = x := by
    simp only [pressScaled, asr_eq_div]
    rfl
  have hdivide : pressDivide (fun _ => w32) .overflowSafe x d = q := by
    simp only [pressDivide, firstDivide, shl, decide_eq_true_eq]
    rfl
  have hback : pressBack (fun _ => w32) q (pressCoefs s.cal) = p := by
    simp only [pressBack, asr_eq_div, shl]
    rfl
  have hres := pressResult_eq hfront
  rw [hscaled, hdivide, hback] at hres
  refine ⟨fun hd => ⟨_, exec_compp_divZero hidle hready ?_⟩, fun hd => exec_compp_result hidle hready ?_⟩
  · rw [hres, if_pos hd]
  · rw [hres, if_neg hd]

/-! ### Humidity (R175 to R179) -/

/-- `COMPH` in `Idle`, by the result of its function. -/
theorem exec_comph_result {s : State} {h : Int} (hidle : s.seq.state = .idle) (hready : readyFor .comph s = true)
    (hres : humResult s = h) : exec .comph s = .next { s with
      out := { s.out with
        hum := store 32 h
        rng := (s.out.rng &&& 0b1011#4) ||| (if h < 0 ∨ 100000 < h then 0b0100#4 else 0#4) }
      draws := s.draws + 1
      err := if h < 0 ∨ 100000 < h then .rangeError else .ok
      done := true } := by
  have hres' : humResult (accept s) = h := hres
  have hflag : (humBody (accept s)).out.rng.getLsbD 2 = humOutOfBand h := by
    simp only [humBody, hres']
    exact getLsbD_setRng_self 2 _ _
  rw [exec_accepted (by decide) hidle hready, acceptedBody, comphBody, hflag, endOperation_idle _ (humBody (accept s)) hidle,
    humBody, hres']
  simp only [setRng_hum, humOutOfBand_eq, rangeOutcome, decide_eq_true_eq]
  rfl

/-- Settles O22: the shifts of the body are floor divisions, its divisions truncate, and its nodes reduce to 32 bits. -/
theorem comphComputesHumidity : Obligations.ComphComputesHumidity := by
  intro s hidle hcal hraw htfine w c ts v1 a b v2 v3 v4 v5 v6 h
  have hready : readyFor .comph s = true := by simp [readyFor, needsCalRawTfine, hcal, hraw, htfine]
  have hres : humResult s = h := by
    rw [humResult, narrow32_default, compH]
    simp only [Config.humPoly, humSteps, asr_eq_div, shl, tdiv]
    rfl
  exact exec_comph_result hidle hready hres

/-! ### Gas resistance (R180) -/

/-- `RAW.status` as a number (R96). -/
theorem rawStatus_eq (r : RawRegs) :
    rawStatus r = BitVec.ofNat 8 (128 * r.newData.toNat + 32 * r.gasValid.toNat + 16 * r.heatStab.toNat) := by
  simp only [rawStatus]
  generalize r.newData = a, r.gasValid = b, r.heatStab = c
  revert a b c; decide

/-- The registers' ranges are the domain of R183, so the gas divisor is not zero. -/
theorem gasResult_bounds (s : State) : ∃ g, gasResult s = some g ∧ 175 ≤ g ∧ g ≤ 13197970 := by
  have hgas := s.raw.gas.isLt
  have hsw := BitVec.le_toInt s.cal.rangeSwError
  have hsw' := BitVec.toInt_lt (x := s.cal.rangeSwError)
  exact compG_bounds _ (by simp [uval]) (by simp only [uval]; omega) (by simpa [sval] using hsw) (by simp only [sval]; omega)

/-- Settles O23: the function has a value (R183), its shifts are floor divisions. -/
theorem compgComputesGasResistance : Obligations.CompgComputesGasResistance := by
  intro s hidle hcal hraw var1 var2 var3
  have hready : readyFor .compg s = true := by simp [readyFor, needsCalRaw, hcal, hraw]
  have heq : gasResult s = if var2 = 0 then none else some ((var3 + var2.tdiv 2).tdiv var2) := by
    rw [gasResult, compG_eq]
    simp only [asr_eq_div, shl, tdiv]
    rfl
  obtain ⟨g, hg, -⟩ := gasResult_bounds s
  have hres : gasResult (accept s) = some ((var3 + var2.tdiv 2).tdiv var2) := by
    by_cases hzero : var2 = 0
    · rw [heq, if_pos hzero] at hg
      cases hg
    · exact heq.trans (if_neg hzero)
  rw [exec_accepted (by decide) hidle hready, acceptedBody, compgBody, endOperation_idle _ (gasBody (accept s)) hidle, gasBody, hres]
  simp only [rawStatus_eq]
  rfl

/-! ### The heater code (R190, R191) -/

/-- Settles O24: the formula on the registers as numbers, with the target temperature capped. -/
theorem heatrComputesTheResistanceCode : Obligations.HeatrComputesTheResistanceCode := by
  intro s hidle hcal t var1 var2 var3 var4 var5 x100
  have hcap : heatCap (uval s.cfg.heatTemp) = t := if_congr (by simp only [uval]; omega) rfl rfl
  have hres : heatRes Config.heatPoly (uval s.cfg.heatTemp) (sval s.cfg.ambTemp) (heatCoefs s.cal) =
      BitVec.ofInt 8 ((x100 + 50).tdiv 100) := by
    rw [heatRes, heatResFull_eq, hcap]
    rfl
  rw [exec_accepted (i := .heatr) (by decide) hidle hcal]
  refine congrArg _ ((endOperation_idle .ok (writeResHeat (accept s)) hidle).trans ?_)
  rw [← hres]
  rfl

end Sys2Proof.Machine
end

section
/-! PROOFS. The valid flags tell the truth (R32, R34): what each computation makes current and what it leaves current. -/

namespace Sys2Proof.Machine

/-! ### What being current depends on -/

theorem TfineCurrent.of_eq {s t : State} (h : TfineCurrent s) (hraw : t.raw = s.raw) (hcal : t.cal = s.cal)
    (htFine : t.tFine = s.tFine) : TfineCurrent t := by
  unfold TfineCurrent
  rwa [hraw, hcal, htFine]

theorem TempCurrent.of_eq {s t : State} (h : TempCurrent s) (hraw : t.raw = s.raw) (hcal : t.cal = s.cal)
    (htemp : t.out.temp = s.out.temp) (hbit : t.out.rng.getLsbD 0 = s.out.rng.getLsbD 0) : TempCurrent t := by
  unfold TempCurrent
  rwa [hraw, hcal, htemp, hbit]

theorem PressCurrent.of_eq {s t : State} (h : PressCurrent s) (hraw : t.raw = s.raw) (hcal : t.cal = s.cal)
    (htFine : t.tFine = s.tFine) (hpress : t.out.press = s.out.press) (hband : t.out.rng.getLsbD 1 = s.out.rng.getLsbD 1)
    (hdivisor : t.out.rng.getLsbD 3 = s.out.rng.getLsbD 3) : PressCurrent t := by
  unfold PressCurrent
  rwa [hraw, hcal, htFine, hpress, hband, hdivisor]

theorem HumCurrent.of_eq {s t : State} (h : HumCurrent s) (hraw : t.raw = s.raw) (hcal : t.cal = s.cal)
    (htFine : t.tFine = s.tFine) (hhum : t.out.hum = s.out.hum) (hbit : t.out.rng.getLsbD 2 = s.out.rng.getLsbD 2) :
    HumCurrent t := by
  unfold HumCurrent
  rwa [hraw, hcal, htFine, hhum, hbit]

theorem gasResult_of_eq {s t : State} (hraw : t.raw = s.raw) (hcal : t.cal = s.cal) : gasResult t = gasResult s := by
  rw [gasResult, gasResult, hraw, hcal]

theorem GasCurrent.of_eq {s t : State} (h : GasCurrent s) (hraw : t.raw = s.raw) (hcal : t.cal = s.cal)
    (hgas : t.out.gas = s.out.gas) (hstatus : t.out.status = s.out.status) (hindex : t.out.gasIndex = s.out.gasIndex)
    (hmeas : t.out.measIndex = s.out.measIndex) : GasCurrent t := by
  unfold GasCurrent
  rwa [gasResult_of_eq hraw hcal, hraw, hgas, hstatus, hindex, hmeas]

/-- The four results belong to the current raw sample and coefficients (R34). -/
def ResultsCurrent (s : State) : Prop := TempCurrent s ∧ PressCurrent s ∧ HumCurrent s ∧ GasCurrent s

theorem ResultsCurrent.of_eq {s t : State} (h : ResultsCurrent s) (hraw : t.raw = s.raw) (hcal : t.cal = s.cal)
    (htFine : t.tFine = s.tFine) (hout : t.out = s.out) : ResultsCurrent t := by
  obtain ⟨htemp, hpress, hhum, hgas⟩ := h
  exact ⟨htemp.of_eq hraw hcal (by rw [hout]) (by rw [hout]),
    hpress.of_eq hraw hcal htFine (by rw [hout]) (by rw [hout]) (by rw [hout]),
    hhum.of_eq hraw hcal htFine (by rw [hout]) (by rw [hout]),
    hgas.of_eq hraw hcal (by rw [hout]) (by rw [hout]) (by rw [hout]) (by rw [hout])⟩

/-- A state in which no result and no `T_FINE` is valid promises nothing. -/
theorem readingInv_of_invalid {s : State} (htfine : s.tfineValid = false) (hout : s.outValid = false) : ReadingInv s :=
  ⟨fun h => by simp [htfine] at h, fun h => by simp [hout] at h⟩

theorem ReadingInv.of_eq {s t : State} (h : ReadingInv s) (hraw : t.raw = s.raw) (hcal : t.cal = s.cal)
    (htFine : t.tFine = s.tFine) (htfineValid : t.tfineValid = s.tfineValid) (hout : t.out = s.out)
    (houtValid : t.outValid = s.outValid) : ReadingInv t where
  tfine hv := (h.tfine (htfineValid ▸ hv)).of_eq hraw hcal htFine
  reading hv := ResultsCurrent.of_eq (h.reading (houtValid ▸ hv)) hraw hcal htFine hout

/-! ### What each computation makes current -/

theorem tempBody_tfineCurrent (s : State) : TfineCurrent (tempBody s) := rfl

theorem tempBody_tempCurrent (s : State) : TempCurrent (tempBody s) := ⟨rfl, getLsbD_setRng_self 0 _ _⟩

theorem pressBody_pressCurrent (s : State) : PressCurrent (pressBody s) := by
  rw [pressBody_eq]
  have hres : pressResult s = compP Config.pressPoly (fun _ => w32) Config.pressBranch (uval s.raw.press) (sval s.tFine)
      (pressCoefs s.cal) := rfl
  simp only [PressCurrent, ← hres]
  cases pressResult s with
  | none =>
    simp only [pressRng, setRng_divZero]
    generalize s.out.rng = rng
    revert rng; decide
  | some p =>
    exact ⟨rfl, getLsbD_setRng_self 1 _ _,
      (getLsbD_setRng_of_ne (i := 1) (j := 3) _ _ (by decide)).trans (getLsbD_setRng_self 3 _ _)⟩

theorem humBody_humCurrent (s : State) : HumCurrent (humBody s) := ⟨rfl, getLsbD_setRng_self 2 _ _⟩

/-- A gas result fits its unsigned register (R183). -/
theorem toNat_store32 {g : Int} (h0 : 0 ≤ g) (h : g < 4294967296) : ((store 32 g).toNat : Int) = g := by
  rw [store, BitVec.toNat_ofInt]
  omega

theorem gasBody_gasCurrent (s : State) : GasCurrent (gasBody s) := by
  obtain ⟨g, hg, hlo, hhi⟩ := gasResult_bounds s
  have hout : (gasBody s).out.gas = store 32 g := by
    simp only [gasBody, hg]
  refine ⟨?_, rfl, rfl, rfl⟩
  rw [hout]
  exact hg.trans (congrArg some (toNat_store32 (by omega) (by omega)).symm)

/-! ### What each computation leaves current -/

/-- Computing a current `T_FINE` again changes nothing that the other results depend on. -/
theorem tempBody_resultsCurrent {s : State} (htfine : TfineCurrent s) (h : ResultsCurrent s) : ResultsCurrent (tempBody s) := by
  obtain ⟨-, hpress, hhum, hgas⟩ := h
  have htFine : (tempBody s).tFine = s.tFine := htfine.symm
  exact ⟨tempBody_tempCurrent s,
    hpress.of_eq rfl rfl htFine rfl (getLsbD_setRng_of_ne (j := 1) _ _ (by decide)) (getLsbD_setRng_of_ne (j := 3) _ _ (by decide)),
    hhum.of_eq rfl rfl htFine rfl (getLsbD_setRng_of_ne (j := 2) _ _ (by decide)), hgas.of_eq rfl rfl rfl rfl rfl rfl⟩

theorem pressBody_tempCurrent {s : State} (h : TempCurrent s) : TempCurrent (pressBody s) := by
  rw [pressBody_eq]
  exact h.of_eq rfl rfl rfl (pressRng_others _ _).1

theorem pressBody_resultsCurrent {s : State} (h : ResultsCurrent s) : ResultsCurrent (pressBody s) := by
  obtain ⟨htemp, -, hhum, hgas⟩ := h
  refine ⟨pressBody_tempCurrent htemp, pressBody_pressCurrent s, ?_⟩
  rw [pressBody_eq]
  exact ⟨hhum.of_eq rfl rfl rfl rfl (pressRng_others _ _).2, hgas.of_eq rfl rfl rfl rfl rfl rfl⟩

theorem humBody_tempCurrent {s : State} (h : TempCurrent s) : TempCurrent (humBody s) :=
  h.of_eq rfl rfl rfl (getLsbD_setRng_of_ne (i := 2) (j := 0) _ _ (by decide))

theorem humBody_pressCurrent {s : State} (h : PressCurrent s) : PressCurrent (humBody s) :=
  h.of_eq rfl rfl rfl rfl (getLsbD_setRng_of_ne (i := 2) (j := 1) _ _ (by decide))
    (getLsbD_setRng_of_ne (i := 2) (j := 3) _ _ (by decide))

theorem humBody_resultsCurrent {s : State} (h : ResultsCurrent s) : ResultsCurrent (humBody s) := by
  obtain ⟨htemp, hpress, -, hgas⟩ := h
  exact ⟨humBody_tempCurrent htemp, humBody_pressCurrent hpress, humBody_humCurrent s, hgas.of_eq rfl rfl rfl rfl rfl rfl⟩

/-- The gas computation leaves the other results and `OUT.rng` alone (R180). -/
theorem gasBody_resultsCurrent {s : State} (htemp : TempCurrent s) (hpress : PressCurrent s) (hhum : HumCurrent s) :
    ResultsCurrent (gasBody s) :=
  ⟨htemp.of_eq rfl rfl rfl rfl, hpress.of_eq rfl rfl rfl rfl rfl rfl, hhum.of_eq rfl rfl rfl rfl rfl, gasBody_gasCurrent s⟩

/-- All four on one raw sample make a reading (R185). -/
theorem compAll_resultsCurrent (s : State) : ResultsCurrent (compAll s) :=
  gasBody_resultsCurrent (humBody_tempCurrent (pressBody_tempCurrent (tempBody_tempCurrent s)))
    (humBody_pressCurrent (pressBody_pressCurrent _)) (humBody_humCurrent _)

theorem compAll_tfineCurrent (s : State) : TfineCurrent (compAll s) :=
  (tempBody_tfineCurrent s).of_eq (by simp [compAll]) (by simp [compAll]) (by simp [compAll])

/-! ### The step -/

/-- The end of a cycle leaves a truthful reading (R222). -/
theorem cycleFinish_readingInv (s : State) : ReadingInv (cycleFinish s) where
  tfine _ := (compAll_tfineCurrent (decodeSample s)).of_eq rfl rfl rfl
  reading _ := (compAll_resultsCurrent (decodeSample s)).of_eq rfl rfl rfl rfl

/-- An accepted operation keeps the flags truthful: decoders and acceptances clear them, and a computation keeps the results that
it does not replace. A valid reading has a valid `T_FINE`, which `COMPT` computes again (R32, R34). -/
theorem acceptedBody_readingInv (i : Instr) {s : State} (houtNeeds : s.outValid = true → s.tfineValid = true) (h : ReadingInv s) :
    ReadingInv (acceptedBody i s) := by
  cases i with
  | nop => exact h
  | init => exact readingInv_of_invalid rfl rfl
  | measure =>
    rw [acceptedBody, measureBody, heaterCodes_frame]
    exact readingInv_of_invalid rfl rfl
  | caldec | flddec => exact readingInv_of_invalid rfl rfl
  | clrerr => exact h.of_eq rfl rfl rfl rfl rfl rfl
  | heatr => exact h.of_eq rfl rfl rfl rfl rfl rfl
  | heatd => exact h.of_eq rfl rfl rfl rfl rfl rfl
  | compt =>
    refine ReadingInv.of_eq (s := tempBody s) ⟨fun _ => tempBody_tfineCurrent s, fun hv => ?_⟩ rfl rfl rfl rfl rfl rfl
    exact tempBody_resultsCurrent (h.tfine (houtNeeds hv)) (h.reading hv)
  | compp =>
    refine ReadingInv.of_eq (s := pressBody s) ⟨fun hv => ?_, fun hv => ?_⟩ rfl rfl rfl rfl rfl rfl
    · rw [pressBody_tfineValid] at hv
      exact (h.tfine hv).of_eq (pressBody_raw s) (pressBody_cal s) (pressBody_tFine s)
    · rw [pressBody_outValid] at hv
      exact pressBody_resultsCurrent (h.reading hv)
  | comph =>
    exact ReadingInv.of_eq (s := humBody s)
      ⟨fun hv => (h.tfine hv).of_eq rfl rfl rfl, fun hv => humBody_resultsCurrent (h.reading hv)⟩ rfl rfl rfl rfl rfl rfl
  | compg =>
    refine ReadingInv.of_eq (s := gasBody s) ⟨fun hv => (h.tfine hv).of_eq rfl rfl rfl, fun hv => ?_⟩ rfl rfl rfl rfl rfl rfl
    obtain ⟨htemp, hpress, hhum, -⟩ := h.reading hv
    exact gasBody_resultsCurrent htemp hpress hhum

/-- Settles O43: the only step that sets `OUT.valid` runs all four computations; `INIT` ends with nothing computed valid. -/
theorem validFlagsStayTruthful : Obligations.ValidFlagsStayTruthful := by
  intro s t hcontrol hinv h
  cases step_dataStep h with
  | same h =>
    exact hinv.of_eq (congrArg DataRegs.raw h) (congrArg DataRegs.cal h) (congrArg DataRegs.tFine h)
      (congrArg DataRegs.tfineValid h) (congrArg DataRegs.out h) (congrArg DataRegs.outValid h)
  | written data rest r _ _ heq =>
    rw [writeReg_frame] at heq
    subst heq
    exact hinv.of_eq rfl rfl rfl rfl rfl rfl
  | accepted i rest _ _ _ _ heq =>
    have hstart : ReadingInv (accept { s with inputs := rest }) := hinv.of_eq rfl rfl rfl rfl rfl rfl
    exact heq ▸ acceptedBody_readingInv i hcontrol.outNeeds hstart
  | reset rest _ heq => exact heq ▸ readingInv_of_invalid rfl rfl
  | initEnd rest hst _ heq =>
    obtain ⟨-, htfine, hout⟩ := (hcontrol.runningInv (by simp [hst])).nothingValid
    exact heq ▸ readingInv_of_invalid htfine hout
  | cycleEnd rest _ _ heq => exact heq ▸ cycleFinish_readingInv _

end Sys2Proof.Machine
end

section
/-! PROOFS. The host port: what a read returns (R96, R243), the checks of a register write and what it stores (R241), and the events
that leave the block alone (R9 to R11, R276). -/

namespace Sys2Proof.Machine

/-! ### Reads (R96, R243) -/

theorem hostRead_hostRegNumber (s : State) (r : HostReg) : hostRead s (Config.hostRegNumber r) = readReg s r := by
  rw [hostRead, decodeHostReg_hostRegNumber]

/-- An unsigned register reads as its number: zero extension. -/
theorem toNat_hostRead {n : Nat} {s : State} (r : HostReg) {v : BitVec n} (hn : n ≤ 32) (hreg : readReg s r = zextWord v) :
    (hostRead s (Config.hostRegNumber r)).toNat = v.toNat := by
  rw [hostRead_hostRegNumber, hreg, zextWord, BitVec.toNat_setWidth_of_le hn]

/-- A signed register reads as its number: sign extension. -/
theorem toInt_hostRead {n : Nat} {s : State} (r : HostReg) {v : BitVec n} (hn : n ≤ 32) (hreg : readReg s r = sextWord v) :
    (hostRead s (Config.hostRegNumber r)).toInt = v.toInt := by
  rw [hostRead_hostRegNumber, hreg, sextWord, BitVec.toInt_signExtend_of_le hn]

/-- A 32-bit signed register is the word itself. -/
theorem toInt_hostRead_word {s : State} (r : HostReg) {v : Word} (hreg : readReg s r = v) :
    (hostRead s (Config.hostRegNumber r)).toInt = v.toInt := by
  rw [hostRead_hostRegNumber, hreg]

/-- `RAW.status` as a number (R96). -/
theorem toNat_rawStatus (r : RawRegs) :
    (rawStatus r).toNat = 128 * r.newData.toNat + 32 * r.gasValid.toNat + 16 * r.heatStab.toNat := by
  have hbit (b : Bool) : b.toNat ≤ 1 := Bool.toNat_le b
  have h1 := hbit r.newData
  have h2 := hbit r.gasValid
  have h3 := hbit r.heatStab
  rw [rawStatus_eq, BitVec.toNat_ofNat]
  omega

/-- Settles O12: each number is that of its register, whose value is extended with the sign that R96 gives it. -/
theorem hostReadExtendsRegisters : Obligations.HostReadExtendsRegisters := by
  intro s
  refine ⟨hostRead_hostRegNumber s .cmd, toNat_hostRead .stat (by decide) rfl, toNat_hostRead .err (by decide) rfl,
    toNat_hostRead .rejc (by decide) rfl, (toNat_hostRead .gasEn (by decide) rfl).trans (BitVec.toNat_ofBool _),
    (toNat_hostRead .rawStatus (by decide) rfl).trans (toNat_rawStatus _), toNat_hostRead .polls (by decide) rfl,
    toNat_hostRead .osT (by decide) rfl, toNat_hostRead .osP (by decide) rfl, toNat_hostRead .osH (by decide) rfl,
    toNat_hostRead .filter (by decide) rfl, toNat_hostRead .heatTemp (by decide) rfl, toNat_hostRead .heatDur (by decide) rfl,
    toNat_hostRead .resHeat (by decide) rfl, toNat_hostRead .gasWait (by decide) rfl, toNat_hostRead .parT1 (by decide) rfl,
    toNat_hostRead .parP1 (by decide) rfl, toNat_hostRead .parP10 (by decide) rfl, toNat_hostRead .parH1 (by decide) rfl,
    toNat_hostRead .parH2 (by decide) rfl, toNat_hostRead .parH6 (by decide) rfl, toNat_hostRead .resHeatRange (by decide) rfl,
    toNat_hostRead .rawPress (by decide) rfl, toNat_hostRead .rawTemp (by decide) rfl, toNat_hostRead .rawHum (by decide) rfl,
    toNat_hostRead .rawGas (by decide) rfl, toNat_hostRead .rawRange (by decide) rfl, toNat_hostRead .rawGasIndex (by decide) rfl,
    toNat_hostRead .rawMeasIndex (by decide) rfl, toNat_hostRead .outGas (by decide) rfl, toNat_hostRead .outStatus (by decide) rfl,
    toNat_hostRead .outGasIndex (by decide) rfl, toNat_hostRead .outMeasIndex (by decide) rfl, toNat_hostRead .outRng (by decide) rfl,
    toInt_hostRead .ambTemp (by decide) rfl, toInt_hostRead .parT2 (by decide) rfl, toInt_hostRead .parT3 (by decide) rfl,
    toInt_hostRead .parP2 (by decide) rfl, toInt_hostRead .parP3 (by decide) rfl, toInt_hostRead .parP4 (by decide) rfl,
    toInt_hostRead .parP5 (by decide) rfl, toInt_hostRead .parP6 (by decide) rfl, toInt_hostRead .parP7 (by decide) rfl,
    toInt_hostRead .parP8 (by decide) rfl, toInt_hostRead .parP9 (by decide) rfl, toInt_hostRead .parH3 (by decide) rfl,
    toInt_hostRead .parH4 (by decide) rfl, toInt_hostRead .parH5 (by decide) rfl, toInt_hostRead .parH7 (by decide) rfl,
    toInt_hostRead .parG1 (by decide) rfl, toInt_hostRead .parG2 (by decide) rfl, toInt_hostRead .parG3 (by decide) rfl,
    toInt_hostRead .resHeatVal (by decide) rfl, toInt_hostRead .rangeSwError (by decide) rfl, toInt_hostRead_word .tFine rfl,
    toInt_hostRead_word .outTemp rfl, toInt_hostRead_word .outPress rfl, toInt_hostRead_word .outHum rfl,
    fun i => toNat_hostRead (.calbuf i) (by decide) rfl, fun i => toNat_hostRead (.auxbuf i) (by decide) rfl,
    fun i => toNat_hostRead (.fldbuf i) (by decide) rfl⟩

/-! ### Events that leave the block alone -/

/-- Settles O11: a sensor register that changes reads as the new value, by `Memory.get?_set`. -/
theorem readsAndEventsLeaveTheBlock : Obligations.ReadsAndEventsLeaveTheBlock := by
  refine fun s rest => ⟨fun hr hin => step_input s _ rest hin, fun addr v hin => ⟨_, step_input s _ rest hin, fun k => ?_⟩,
    fun ms hin => step_input s _ rest hin⟩
  rw [Memory.get?_set]
  exact if_congr eq_comm rfl rfl

/-! ### The checks of a register write (R241) -/

/-- Number `n` lies in one of the ranges of R96 whose access is `RW*`. -/
def WritableNumber (n : Nat) : Prop :=
  (0x08 ≤ n ∧ n ≤ 0x0F) ∨ (0x80 ≤ n ∧ n ≤ 0xAB) ∨ (0xB0 ≤ n ∧ n ≤ 0xBE)

/-- The values of R96 that the register of number `n` takes. -/
def LegalWrite (n : Nat) (data : Word) : Prop :=
  (0x08 ≤ n ∧ n ≤ 0x0A ∧ data.toNat ≤ 5) ∨ (n = 0x0B ∧ data.toNat ≤ 7) ∨ (n = 0x0C ∧ -128 ≤ data.toInt ∧ data.toInt ≤ 127) ∨
    (n = 0x0D ∧ data.toNat ≤ 1) ∨ (0x0E ≤ n ∧ n ≤ 0x0F ∧ data.toNat ≤ 65535) ∨ (0x80 ≤ n ∧ data.toNat ≤ 255)

/-- The writable registers have the numbers of these ranges, all of them. -/
theorem writableNumber_iff (hr : BitVec 8) :
    WritableNumber hr.toNat ↔ ∃ r, Config.hostRegNumber r = hr ∧ writable r = true := by
  have hmem : hr.toNat ∈ (HostReg.all.filter writable).map (fun r => (Config.hostRegNumber r).toNat) ↔
      ∃ r, Config.hostRegNumber r = hr ∧ writable r = true := by
    simp [HostReg.mem_all, BitVec.toNat_inj, and_comm]
  rw [← hmem, map_hostRegNumber_writable]
  simp only [List.mem_append, List.mem_range'_1, WritableNumber]
  omega

theorem legalValue_iff {r : HostReg} (data : Word) (h : writable r = true) :
    legalValue data r = true ↔ LegalWrite (Config.hostRegNumber r).toNat data := by
  unfold LegalWrite
  cases r with
  | calbuf i | auxbuf i | fldbuf i =>
    have hi := i.isLt
    simp only [legalValue, Config.hostRegNumber, BitVec.toNat_ofNat, decide_eq_true_eq]
    omega
  | osT | osP | osH | filter | ambTemp | gasEn | heatTemp | heatDur =>
    simp [legalValue, Config.hostRegNumber]
  | _ => cases h

/-- A write to a writable register: `Busy`, then `BadValue`, else the value is taken. -/
theorem runInput_writable {r : HostReg} (data : Word) (s : State) (h : writable r = true) :
    runInput (.host (.write (Config.hostRegNumber r) data)) s = .next (writeWritable r data s) := by
  have hne : Config.hostRegNumber r ≠ 0 := by
    intro hzero
    cases hostRegNumber_injective (a₂ := .cmd) hzero
    cases h
  rw [runInput_write data s hne, hostWrite, decodeHostReg_hostRegNumber]
  simp [h]

theorem writeWritable_busy {s : State} (r : HostReg) (data : Word) (hrun : s.seq.state ≠ .idle) :
    writeWritable r data s = reject .busy s :=
  if_pos ((State.busy_eq_true s).2 hrun)

theorem writeWritable_idle {s : State} (r : HostReg) (data : Word) (hidle : s.seq.state = .idle) :
    writeWritable r data s = if legalValue data r then writeReg data s r else reject .badValue s := by
  simp [writeWritable, (State.busy_eq_false s).2 hidle]

/-- Settles O14: the number says whether a register is writable, and which values it takes. -/
theorem registerWritesCheckedInOrder : Obligations.RegisterWritesCheckedInOrder := by
  intro s hr data n canWrite legal
  refine ⟨fun hne hno => ?_, fun hcan hrun => ?_, fun hcan hidle hillegal => ?_⟩
  · have hread (r : HostReg) (hd : decodeHostReg hr = some r) : writable r = false := by
      by_contra hw
      exact hno ((writableNumber_iff hr).2 ⟨r, hostRegNumber_of_decodeHostReg hd, by simpa using hw⟩)
    rw [runInput_write data s hne, hostWrite_eq_reject_badRegister data s hread]
    rfl
  · obtain ⟨r, rfl, hw⟩ := (writableNumber_iff hr).1 hcan
    rw [runInput_writable data s hw, writeWritable_busy r data hrun]
    rfl
  · obtain ⟨r, rfl, hw⟩ := (writableNumber_iff hr).1 hcan
    have hlegal : ¬ legalValue data r = true := fun hl => hillegal ((legalValue_iff data hw).1 hl)
    rw [runInput_writable data s hw, writeWritable_idle r data hidle, if_neg hlegal]
    rfl

/-! ### What a register write stores (R241) -/

theorem runInput_stores {r : HostReg} {data : Word} {s : State} (hw : writable r = true) (hidle : s.seq.state = .idle)
    (hlegal : legalValue data r = true) :
    runInput (.host (.write (Config.hostRegNumber r) data)) s = .next (writeReg data s r) := by
  rw [runInput_writable data s hw, writeWritable_idle r data hidle, if_pos hlegal]

/-- The low byte of a word holds the number of a legal ambient temperature. -/
theorem ofInt_toInt_eq_setWidth (data : Word) : BitVec.ofInt 8 data.toInt = data.setWidth 8 := by
  have hdata := data.isLt
  apply BitVec.eq_of_toNat_eq
  rw [BitVec.toNat_ofInt, BitVec.toNat_setWidth, BitVec.toInt_eq_toNat_cond]
  split <;> omega

/-- `CFG.gas_en` takes the lowest bit, which is the word if that is 0 or 1. -/
theorem getLsbD_zero_of_le_one {data : Word} (h : data.toNat ≤ 1) : data.getLsbD 0 = (data == 1) := by
  obtain h0 | h1 : data.toNat = 0 ∨ data.toNat = 1 := by omega
  · rw [BitVec.eq_of_toNat_eq (y := 0) h0]; decide
  · rw [BitVec.eq_of_toNat_eq (y := 1) h1]; decide

/-- Settles O15: `writeReg` stores the low bits of a legal word, which are its number. -/
theorem registerWritesStoreTheValue : Obligations.RegisterWritesStoreTheValue := by
  intro s data hidle
  simp only [BitVec.ofNat_toNat, ofInt_toInt_eq_setWidth]
  refine ⟨fun h => ?_, fun h => ?_, fun h => ?_, fun h => ?_, fun h h' => ?_, fun h => ?_, fun h => ?_, fun h => ?_,
    fun h i => ?_, fun h i => ?_, fun h i => ?_⟩
  · exact runInput_stores (r := .osT) rfl hidle (decide_eq_true h)
  · exact runInput_stores (r := .osP) rfl hidle (decide_eq_true h)
  · exact runInput_stores (r := .osH) rfl hidle (decide_eq_true h)
  · exact runInput_stores (r := .filter) rfl hidle (decide_eq_true h)
  · exact runInput_stores (r := .ambTemp) rfl hidle (by simp [legalValue, h, h'])
  · rw [← getLsbD_zero_of_le_one h]
    exact runInput_stores (r := .gasEn) rfl hidle (decide_eq_true h)
  · exact runInput_stores (r := .heatTemp) rfl hidle (decide_eq_true h)
  · exact runInput_stores (r := .heatDur) rfl hidle (decide_eq_true h)
  · exact runInput_stores (r := .calbuf i) rfl hidle (decide_eq_true h)
  · exact runInput_stores (r := .auxbuf i) rfl hidle (decide_eq_true h)
  · exact runInput_stores (r := .fldbuf i) rfl hidle (decide_eq_true h)

end Sys2Proof.Machine
end

section
/-! PROOFS. The decoders depend on exactly their used bits and reach every value: the raw field decoder (R152) and the calibration
decoder (R139). -/

namespace Sys2Proof.Machine

/-! ### Concatenations by their fields -/

/-- Concatenations of fields of the same widths are equal field by field. -/
theorem append_eq_append_iff {m n : Nat} {x x' : BitVec m} {y y' : BitVec n} : x ++ y = x' ++ y' ↔ x = x' ∧ y = y' := by
  constructor
  · intro h
    have hx := congrArg (BitVec.extractLsb' n m) h
    have hy := congrArg (BitVec.extractLsb' 0 n) h
    rw [BitVec.extractLsb'_append_eq_left, BitVec.extractLsb'_append_eq_left] at hx
    rw [BitVec.extractLsb'_append_eq_right, BitVec.extractLsb'_append_eq_right] at hy
    exact ⟨hx, hy⟩
  · rintro ⟨rfl, rfl⟩
    rfl

/-- Two 16-bit values by their bytes (R110). -/
theorem bytes_eq_iff {hi lo hi' lo' : Byte} : (hi ++ lo : BitVec 16) = hi' ++ lo' ↔ hi = hi' ∧ lo = lo' :=
  append_eq_append_iff

/-- A 16-bit value is its two bytes. -/
theorem bytes_of_word (v : BitVec 16) : v.extractLsb' 8 8 ++ v.extractLsb' 0 8 = v :=
  (BitVec.extractLsb'_append_extractLsb'_eq_extractLsb' (by decide : 8 = 0 + 8)).trans BitVec.extractLsb'_eq_self

/-- A byte is its two nibbles. -/
theorem byte_eq_iff {b b' : Byte} : b = b' ↔ b.extractLsb' 0 4 = b'.extractLsb' 0 4 ∧ b.extractLsb' 4 4 = b'.extractLsb' 4 4 := by
  have hsplit (b : Byte) : b.extractLsb' 4 4 ++ b.extractLsb' 0 4 = b := by revert b; decide
  refine ⟨by rintro rfl; exact ⟨rfl, rfl⟩, fun ⟨hlo, hhi⟩ => ?_⟩
  rw [← hsplit b, ← hsplit b', hlo, hhi]

/-! ### The raw field decoder (R152) -/

/-- The bits of a byte that holds a code's low nibble (R117). -/
theorem highNibbleMask_eq_iff (b b' : Byte) : b &&& 0xF0#8 = b' &&& 0xF0#8 ↔ b.extractLsb' 4 4 = b'.extractLsb' 4 4 := by
  have hmask (b : Byte) : b &&& 0xF0#8 = b.extractLsb' 4 4 ++ 0#4 := by revert b; decide
  rw [hmask, hmask]
  exact append_eq_append_iff.trans (and_iff_left rfl)

/-- The status byte's used bits: `new_data` and the gas index (R119). -/
theorem statusMask_eq_iff (b b' : Byte) :
    b &&& 0x8F#8 = b' &&& 0x8F#8 ↔ b.getLsbD 7 = b'.getLsbD 7 ∧ b.extractLsb' 0 4 = b'.extractLsb' 0 4 := by
  have hmask (b : Byte) : b &&& 0x8F#8 = BitVec.ofBool (b.getLsbD 7) ++ (0#3 ++ b.extractLsb' 0 4) := by revert b; decide
  have hbool : Function.Injective BitVec.ofBool := by decide
  rw [hmask, hmask]
  exact append_eq_append_iff.trans (and_congr hbool.eq_iff (append_eq_append_iff.trans (and_iff_right rfl)))

/-- The gas byte is full: `gas[1:0]`, the two flags and the range (R118). -/
theorem gasByte_eq_iff (b b' : Byte) : b = b' ↔ b.extractLsb' 6 2 = b'.extractLsb' 6 2 ∧ b.getLsbD 5 = b'.getLsbD 5 ∧
    b.getLsbD 4 = b'.getLsbD 4 ∧ b.extractLsb' 0 4 = b'.extractLsb' 0 4 := by
  have hsplit (b : Byte) :
      b.extractLsb' 6 2 ++ BitVec.ofBool (b.getLsbD 5) ++ BitVec.ofBool (b.getLsbD 4) ++ b.extractLsb' 0 4 = b := by
    revert b; decide
  refine ⟨by rintro rfl; exact ⟨rfl, rfl, rfl, rfl⟩, fun ⟨hgas, hvalid, hstab, hrange⟩ => ?_⟩
  rw [← hsplit b, ← hsplit b', hgas, hvalid, hstab, hrange]

/-- A code of 20 bits by its pieces (R117). -/
theorem twentyBits_eq_iff {hi mid lo hi' mid' lo' : Byte} :
    (hi ++ mid ++ lo.extractLsb' 4 4 : BitVec 20) = hi' ++ mid' ++ lo'.extractLsb' 4 4 ↔
      (hi = hi' ∧ mid = mid') ∧ lo &&& 0xF0#8 = lo' &&& 0xF0#8 := by
  rw [highNibbleMask_eq_iff]
  exact append_eq_append_iff.trans (and_congr_left' append_eq_append_iff)

/-- Two field blocks decode alike when the bytes of the codes, the used bits of the shared bytes and the gas byte agree. -/
theorem fieldDecode_eq_iff (buf buf' : Vector Byte 15) :
    fieldDecode Config.fieldLayout buf = fieldDecode Config.fieldLayout buf' ↔
      (buf[1] = buf'[1] ∧ buf[2] = buf'[2] ∧ buf[3] = buf'[3] ∧ buf[5] = buf'[5] ∧ buf[6] = buf'[6] ∧ buf[8] = buf'[8] ∧
          buf[9] = buf'[9] ∧ buf[13] = buf'[13] ∧ buf[14] = buf'[14]) ∧
        buf[0] &&& 0x8F#8 = buf'[0] &&& 0x8F#8 ∧ buf[4] &&& 0xF0#8 = buf'[4] &&& 0xF0#8 ∧
        buf[7] &&& 0xF0#8 = buf'[7] &&& 0xF0#8 := by
  rw [statusMask_eq_iff, gasByte_eq_iff buf[14], fieldDecode, fieldDecode, RawRegs.mk.injEq]
  constructor
  · rintro ⟨hpress, htemp, hhum, hgas, hrange, hnew, hvalid, hstab, hindex, h1⟩
    obtain ⟨⟨h2, h3⟩, h4⟩ := twentyBits_eq_iff.1 hpress
    obtain ⟨⟨h5, h6⟩, h7⟩ := twentyBits_eq_iff.1 htemp
    obtain ⟨h8, h9⟩ := bytes_eq_iff.1 hhum
    obtain ⟨h13, h14⟩ := append_eq_append_iff.1 hgas
    exact ⟨⟨h1, h2, h3, h5, h6, h8, h9, h13, h14, hvalid, hstab, hrange⟩, ⟨hnew, hindex⟩, h4, h7⟩
  · rintro ⟨⟨h1, h2, h3, h5, h6, h8, h9, h13, h14, hvalid, hstab, hrange⟩, ⟨hnew, hindex⟩, h4, h7⟩
    exact ⟨twentyBits_eq_iff.2 ⟨⟨h2, h3⟩, h4⟩, twentyBits_eq_iff.2 ⟨⟨h5, h6⟩, h7⟩, bytes_eq_iff.2 ⟨h8, h9⟩,
      append_eq_append_iff.2 ⟨h13, h14⟩, hrange, hnew, hvalid, hstab, hindex, h1⟩

/-- The field block of a raw sample, with the unused bits 0. -/
def encodeField (r : RawRegs) : Vector Byte 15 := #v[
  BitVec.ofBool r.newData ++ 0#3 ++ r.gasIndex, r.measIndex,
  r.press.extractLsb' 12 8, r.press.extractLsb' 4 8, r.press.extractLsb' 0 4 ++ 0#4,
  r.temp.extractLsb' 12 8, r.temp.extractLsb' 4 8, r.temp.extractLsb' 0 4 ++ 0#4,
  r.hum.extractLsb' 8 8, r.hum.extractLsb' 0 8, 0, 0, 0,
  r.gas.extractLsb' 2 8, r.gas.extractLsb' 0 2 ++ BitVec.ofBool r.gasValid ++ BitVec.ofBool r.heatStab ++ r.range]

/-- A code of 20 bits is its pieces (R117). -/
theorem twentyBits_of_pieces (v : BitVec 20) :
    v.extractLsb' 12 8 ++ v.extractLsb' 4 8 ++ (v.extractLsb' 0 4 ++ 0#4).extractLsb' 4 4 = v := by
  have hv := v.isLt
  apply BitVec.eq_of_toNat_eq
  simp only [toNat_append_eq_add, toNat_extractLsb'_eq_div_mod, BitVec.toNat_ofNat]
  omega

/-- A code of 10 bits is its pieces (R118). -/
theorem tenBits_of_pieces (v : BitVec 10) : v.extractLsb' 2 8 ++ v.extractLsb' 0 2 = v :=
  (BitVec.extractLsb'_append_extractLsb'_eq_extractLsb' (by decide : 2 = 0 + 2)).trans BitVec.extractLsb'_eq_self

/-- The fields of a status byte written from its fields (R119). -/
theorem statusByte_fields (a : Bool) (x : BitVec 4) :
    (BitVec.ofBool a ++ 0#3 ++ x).getLsbD 7 = a ∧ (BitVec.ofBool a ++ 0#3 ++ x).extractLsb' 0 4 = x := by
  revert a x; decide

/-- The fields of a gas byte written from its fields (R118). -/
theorem gasByte_fields (g : BitVec 2) (a b : Bool) (x : BitVec 4) :
    (g ++ BitVec.ofBool a ++ BitVec.ofBool b ++ x).extractLsb' 6 2 = g ∧
      (g ++ BitVec.ofBool a ++ BitVec.ofBool b ++ x).getLsbD 5 = a ∧
      (g ++ BitVec.ofBool a ++ BitVec.ofBool b ++ x).getLsbD 4 = b ∧
      (g ++ BitVec.ofBool a ++ BitVec.ofBool b ++ x).extractLsb' 0 4 = x := by
  revert g a b x; decide

theorem fieldDecode_encodeField (r : RawRegs) : fieldDecode Config.fieldLayout (encodeField r) = r := by
  obtain ⟨press, temp, hum, gas, range, newData, gasValid, heatStab, gasIndex, measIndex⟩ := r
  obtain ⟨hnew, hindex⟩ := statusByte_fields newData gasIndex
  obtain ⟨hgas, hvalid, hstab, hrange⟩ := gasByte_fields (gas.extractLsb' 0 2) gasValid heatStab range
  rw [fieldDecode, RawRegs.mk.injEq]
  refine ⟨twentyBits_of_pieces press, twentyBits_of_pieces temp, bytes_of_word hum, ?_, hrange, hnew, hvalid, hstab, hindex, rfl⟩
  exact (append_eq_append_iff.2 ⟨rfl, hgas⟩).trans (tenBits_of_pieces gas)

/-- Settles O8: the nine full bytes and the used bits of three more determine the sample, and every sample has a block. -/
theorem fieldDecodeBijectiveOnUsedBits : Obligations.FieldDecodeBijectiveOnUsedBits := by
  refine ⟨fun buf buf' => (fieldDecode_eq_iff buf buf').trans (and_congr_left fun _ => ⟨?_, fun h => ?_⟩),
    fun r => ⟨encodeField r, fieldDecode_encodeField r⟩⟩
  · rintro ⟨h1, h2, h3, h5, h6, h8, h9, h13, h14⟩ i hi
    fin_cases i <;> first | assumption | exact absurd (by decide) hi
  · exact ⟨h 1 (by decide), h 2 (by decide), h 3 (by decide), h 5 (by decide), h 6 (by decide), h 8 (by decide),
      h 9 (by decide), h 13 (by decide), h 14 (by decide)⟩

/-! ### The calibration decoder (R139) -/

theorem pairAt_eq_iff {buf buf' : Vector Byte 41} {p : Config.BytePair} :
    pairAt buf p = pairAt buf' p ↔ buf[p.lo] = buf'[p.lo] ∧ buf[p.hi] = buf'[p.hi] :=
  append_eq_append_iff.trans and_comm

theorem nibblePair_eq_iff {b b' : Byte} {x x' : BitVec 4} : nibblePair b x = nibblePair b' x' ↔ b = b' ∧ x = x' :=
  append_eq_append_iff

/-- Two images decode alike exactly when they agree on the bytes of the layout and on the used bits of the auxiliary bytes. -/
theorem calDecode_eq_iff (l : Config.CalLayout) (buf buf' : Vector Byte 41) (aux aux' : Vector Byte 3) :
    calDecode l buf aux = calDecode l buf' aux' ↔ (∀ i ∈ l.offsets, buf[i] = buf'[i]) ∧
      aux[0].extractLsb' 4 2 = aux'[0].extractLsb' 4 2 ∧ aux[1] = aux'[1] ∧
      aux[2].extractLsb' 4 4 = aux'[2].extractLsb' 4 4 := by
  simp only [Config.CalLayout.offsets, List.forall_mem_cons, List.not_mem_nil, false_imp_iff, implies_true, and_true, and_assoc,
    byte_eq_iff (b := buf[l.hShared]), calDecode, CalRegs.mk.injEq, pairAt_eq_iff, nibblePair_eq_iff]
  constructor <;> intro h <;> simp only [h, and_self]

/-- The bytes of the layout are all but the eight that R111 leaves out. -/
theorem mem_offsets_iff (i : Fin 41) : i ∈ Config.calLayout.offsets ↔ i.val ∉ [0, 4, 10, 17, 18, 24, 39, 40] := by
  revert i; decide

/-- The used bits of the auxiliary bytes as numbers (R136, R137). -/
theorem auxBits_eq_iff (b b' : Byte) :
    (b.extractLsb' 4 2 = b'.extractLsb' 4 2 ↔ b.toNat / 16 % 4 = b'.toNat / 16 % 4) ∧
      (b.extractLsb' 4 4 = b'.extractLsb' 4 4 ↔ b.toNat / 16 = b'.toNat / 16) := by
  constructor
  · rw [← BitVec.toNat_inj, toNat_extractLsb'_eq_div_mod, toNat_extractLsb'_eq_div_mod]
    exact Iff.rfl
  · rw [← BitVec.toNat_inj, toNat_highNibble, toNat_highNibble]

/-- The image of a set of coefficients, with the unused bytes 0 (R111). -/
def encodeCal (c : CalRegs) : Vector Byte 41 := #v[
  0, c.parT2.extractLsb' 0 8, c.parT2.extractLsb' 8 8, c.parT3,
  0, c.parP1.extractLsb' 0 8, c.parP1.extractLsb' 8 8, c.parP2.extractLsb' 0 8, c.parP2.extractLsb' 8 8, c.parP3,
  0, c.parP4.extractLsb' 0 8, c.parP4.extractLsb' 8 8, c.parP5.extractLsb' 0 8, c.parP5.extractLsb' 8 8, c.parP7, c.parP6,
  0, 0, c.parP8.extractLsb' 0 8, c.parP8.extractLsb' 8 8, c.parP9.extractLsb' 0 8, c.parP9.extractLsb' 8 8, c.parP10,
  0, (packHumidity c.parH1 c.parH2).1, (packHumidity c.parH1 c.parH2).2.1, (packHumidity c.parH1 c.parH2).2.2,
  c.parH3, c.parH4, c.parH5, c.parH6, c.parH7, c.parT1.extractLsb' 0 8, c.parT1.extractLsb' 8 8,
  c.parG2.extractLsb' 0 8, c.parG2.extractLsb' 8 8, c.parG1, c.parG3, 0, 0]

/-- The auxiliary bytes of a set of coefficients, with the unused bits 0 (R136, R137). -/
def encodeAux (c : CalRegs) : Vector Byte 3 := #v[0#2 ++ c.resHeatRange ++ 0#4, c.resHeatVal, c.rangeSwError ++ 0#4]

/-- A 12-bit humidity coefficient is its upper byte and its nibble (R112). -/
theorem twelveBits_of_pieces (v : BitVec 12) : v.extractLsb' 4 8 ++ v.extractLsb' 0 4 = v :=
  (BitVec.extractLsb'_append_extractLsb'_eq_extractLsb' (by decide : 4 = 0 + 4)).trans BitVec.extractLsb'_eq_self

/-- `CalDecode` undoes the packing of the humidity pair (V-CAL-4). -/
theorem nibblePair_packHumidity (h1 h2 : BitVec 12) :
    nibblePair (packHumidity h1 h2).2.2 ((packHumidity h1 h2).2.1.extractLsb' 0 4) = h1 ∧
      nibblePair (packHumidity h1 h2).1 ((packHumidity h1 h2).2.1.extractLsb' 4 4) = h2 :=
  ⟨(nibblePair_eq_iff.2 ⟨rfl, BitVec.extractLsb'_append_eq_right⟩).trans (twelveBits_of_pieces h1),
    (nibblePair_eq_iff.2 ⟨rfl, BitVec.extractLsb'_append_eq_left⟩).trans (twelveBits_of_pieces h2)⟩

theorem auxByte_fields (x : BitVec 2) (y : BitVec 4) :
    (0#2 ++ x ++ 0#4).extractLsb' 4 2 = x ∧ (y ++ 0#4).extractLsb' 4 4 = y := by
  revert x y; decide

theorem calDecode_encodeCal (c : CalRegs) : calDecode Config.calLayout (encodeCal c) (encodeAux c) = c := by
  obtain ⟨t1, t2, t3, p1, p2, p3, p4, p5, p6, p7, p8, p9, p10, h1, h2, h3, h4, h5, h6, h7, g1, g2, g3, range, val, sw⟩ := c
  obtain ⟨hh1, hh2⟩ := nibblePair_packHumidity h1 h2
  obtain ⟨hrange, hsw⟩ := auxByte_fields range sw
  rw [calDecode, CalRegs.mk.injEq]
  exact ⟨bytes_of_word t1, bytes_of_word t2, rfl, bytes_of_word p1, bytes_of_word p2, rfl, bytes_of_word p4, bytes_of_word p5, rfl,
    rfl, bytes_of_word p8, bytes_of_word p9, rfl, hh1, hh2, rfl, rfl, rfl, rfl, rfl, rfl, bytes_of_word g2, rfl, hrange, rfl, hsw⟩

/-- Settles O6: the layout's bytes and the used bits of the auxiliary bytes determine the coefficients, and every set of
coefficients has an image. -/
theorem calDecodeBijectiveOnUsedBits : Obligations.CalDecodeBijectiveOnUsedBits := by
  refine ⟨fun buf buf' aux aux' => ?_, fun c => ⟨encodeCal c, encodeAux c, calDecode_encodeCal c⟩⟩
  rw [calDecode_eq_iff, (auxBits_eq_iff aux[0] aux'[0]).1, (auxBits_eq_iff aux[2] aux'[2]).2]
  simp only [mem_offsets_iff]

end Sys2Proof.Machine
end

section
/-! PROOFS. The sequencer's micro-steps one by one (R205 to R221): which transaction each makes, and the whole next state when it
succeeds, when it fails (R203), and in the waits (R218). -/

namespace Sys2Proof.Machine

/-! ### The control bytes as numbers (R100 to R103) -/

theorem ctrlHumByte_eq (c : CfgRegs) : ctrlHumByte c = BitVec.ofNat 8 c.osH.toNat := by
  have h := c.osH.isLt
  apply BitVec.eq_of_toNat_eq
  simp only [ctrlHumByte, toNat_append_eq_add, BitVec.toNat_ofNat]
  omega

theorem ctrlMeasByte_sleep (c : CfgRegs) :
    ctrlMeasByte c Config.modeSleep = BitVec.ofNat 8 (32 * c.osT.toNat + 4 * c.osP.toNat) := by
  have ht := c.osT.isLt
  have hp := c.osP.isLt
  have hmode : Config.modeSleep.toNat = 0 := rfl
  apply BitVec.eq_of_toNat_eq
  simp only [ctrlMeasByte, toNat_append_eq_add, hmode, BitVec.toNat_ofNat]
  omega

theorem ctrlMeasByte_forced (c : CfgRegs) :
    ctrlMeasByte c Config.modeForced = BitVec.ofNat 8 (32 * c.osT.toNat + 4 * c.osP.toNat + 1) := by
  have ht := c.osT.isLt
  have hp := c.osP.isLt
  have hmode : Config.modeForced.toNat = 1 := rfl
  apply BitVec.eq_of_toNat_eq
  simp only [ctrlMeasByte, toNat_append_eq_add, hmode, BitVec.toNat_ofNat]
  omega

theorem configByte_eq (c : CfgRegs) : configByte c = BitVec.ofNat 8 (4 * c.filter.toNat) := by
  have h := c.filter.isLt
  apply BitVec.eq_of_toNat_eq
  simp only [configByte, toNat_append_eq_add, BitVec.toNat_ofNat]
  omega

/-! ### The transaction of a control position (R205, R208 to R221) -/

theorem microStep_init {s : State} (f : Bool) (hst : s.seq.state = .init) : microStep f s = initStep f s := by
  rw [microStep, hst]

theorem microStep_configuring {s : State} (f : Bool) (hst : s.seq.state = .configuring) :
    microStep f s = configuringStep f s := by
  rw [microStep, hst]

theorem microStep_triggered {s : State} (f : Bool) (hst : s.seq.state = .triggered) : microStep f s = triggeredStep f s := by
  rw [microStep, hst]

theorem microStep_polling {s : State} (f : Bool) (hst : s.seq.state = .polling) : microStep f s = pollingStep f s := by
  rw [microStep, hst]

theorem microStep_dataReady {s : State} (f : Bool) (hst : s.seq.state = .dataReady) : microStep f s = dataReadyStep f s := by
  rw [microStep, hst]

/-- The micro-step of the state makes the transaction `op`, a read or a one-byte write, and goes on with `k` if it succeeds. -/
inductive Makes (s : State) : BusOp → Prop where
  | read (addr : Byte) (n : Nat) (k : List Byte → State → State) (hok : BusOp.readOk addr n = true)
      (h : ∀ f, microStep f s = .next (readStep s f addr n k)) : Makes s (.read addr n)
  | write (addr b : Byte) (k : State → State) (hok : BusOp.writeOk addr b = true)
      (h : ∀ f, microStep f s = .next (writeStep s f addr b k)) : Makes s (.write addr [b])

theorem makes_init {s : State} {op : BusOp} (hst : s.seq.state = .init) (h : s.nextTransaction = some op) : Makes s op := by
  unfold State.nextTransaction at h
  simp only [hst] at h
  split at h
  case h_1 hstep =>
    cases h
    exact .write _ _ _ (by decide) fun f => by rw [microStep_init f hst, initStep, hstep]; rfl
  case h_9 => cases h
  all_goals
    next hstep =>
    cases h
    exact .read _ _ _ (by decide) fun f => by rw [microStep_init f hst, initStep, hstep]; rfl

theorem makes_configuring {s : State} {op : BusOp} (hst : s.seq.state = .configuring) (h : s.nextTransaction = some op) :
    Makes s op := by
  unfold State.nextTransaction at h
  simp only [hst, ← ctrlHumByte_eq, ← ctrlMeasByte_sleep, ← configByte_eq] at h
  split at h <;> cases h
  case h_1 hstep =>
    exact .write _ _ _ (writeOk_ctrlHum _) fun f => by rw [microStep_configuring f hst, configuringStep, hstep]; rfl
  case h_2 hstep =>
    exact .write _ _ _ (writeOk_ctrlMeas_sleep _) fun f => by rw [microStep_configuring f hst, configuringStep, hstep]; rfl
  case h_3 hstep =>
    exact .write _ _ _ (writeOk_config _) fun f => by rw [microStep_configuring f hst, configuringStep, hstep]; rfl
  case h_4 hstep =>
    cases hgas : s.cfg.gasEn
    · exact .write _ _ _ writeOk_ctrlGas_off fun f => by
        rw [microStep_configuring f hst, configuringStep, hstep]
        exact if_neg (by simp [hgas])
    · exact .write _ _ _ (writeOk_resHeat _) fun f => by
        rw [microStep_configuring f hst, configuringStep, hstep]
        exact if_pos hgas
  case h_5 hstep =>
    exact .write _ _ _ (writeOk_gasWait _) fun f => by rw [microStep_configuring f hst, configuringStep, hstep]; rfl
  case h_6 hstep =>
    exact .write _ _ _ writeOk_ctrlGas_on fun f => by rw [microStep_configuring f hst, configuringStep, hstep]; rfl

/-- The table of transactions agrees with the micro-steps. -/
theorem makes_of_nextTransaction {s : State} {op : BusOp} (h : s.nextTransaction = some op) : Makes s op := by
  have htable := h
  unfold State.nextTransaction at h
  split at h
  case h_1 => cases h
  case h_2 hst => exact makes_init hst htable
  case h_3 hst => exact makes_configuring hst htable
  case h_4 hst =>
    rw [← ctrlMeasByte_forced] at h
    split at h <;> cases h
    next hstep =>
    exact .write _ _ _ (writeOk_ctrlMeas_forced _) fun f => by rw [microStep_triggered f hst, triggeredStep, hstep]; rfl
  case h_5 hst =>
    split at h <;> cases h
    next hstep => exact .read _ _ _ (by decide) fun f => by rw [microStep_polling f hst, pollingStep, hstep]; rfl
  case h_6 hst =>
    split at h <;> cases h
    next hstep => exact .read _ _ _ (by decide) fun f => by rw [microStep_dataReady f hst, dataReadyStep, hstep]; rfl
  case h_7 => cases h

/-- A micro-step without a transaction does not look at whether the bus would fail. -/
theorem microStep_of_noTransaction {s : State} (h : s.nextTransaction = none) : microStep true s = microStep false s := by
  unfold State.nextTransaction at h
  unfold microStep
  cases hst : s.seq.state <;> simp only [hst] at h ⊢
  case init =>
    unfold initStep
    generalize s.seq.step.toNat = n at h ⊢
    match n, h with
    | 2, _ => rfl
    | 9, _ => rfl
    | _ + 10, _ => rfl
  case configuring =>
    unfold configuringStep
    generalize s.seq.step.toNat = n at h ⊢
    match n, h with
    | _ + 6, _ => rfl
  case triggered =>
    have hstep : s.seq.step.toNat ≠ 0 := fun hz => by simp [BitVec.eq_of_toNat_eq (y := 0) hz] at h
    unfold triggeredStep
    generalize s.seq.step.toNat = n at hstep ⊢
    match n, hstep with
    | _ + 1, _ => rfl
  case polling =>
    have hstep : s.seq.step.toNat ≠ 0 := fun hz => by simp [BitVec.eq_of_toNat_eq (y := 0) hz] at h
    unfold pollingStep
    generalize s.seq.step.toNat = n at hstep ⊢
    match n, hstep with
    | 1, _ => rfl
    | _ + 2, _ => rfl
  case dataReady =>
    have hstep : s.seq.step.toNat ≠ 0 := fun hz => by simp [BitVec.eq_of_toNat_eq (y := 0) hz] at h
    unfold dataReadyStep
    generalize s.seq.step.toNat = n at hstep ⊢
    match n, hstep with
    | 1, _ => rfl
    | _ + 2, _ => rfl

/-! ### A transaction that fails (R203) -/

/-- Settles O38: the transaction is the one of the table, and a failed one ends the sequence. -/
theorem busFailureEndsTheSequence : Obligations.BusFailureEndsTheSequence := by
  refine ⟨fun s op hinv hop => ?_, fun s hnone => microStep_of_noTransaction hnone⟩
  have hrun : s.seq.state ≠ .idle := by
    intro hidle
    simp [State.nextTransaction, hidle] at hop
  have hr := hinv.runningInv hrun
  have hcal : s.calValid = true ↔ s.seq.state ≠ .init :=
    ⟨fun hv hst => by simp [hr.initInvalid hst] at hv, hr.cycleValid⟩
  obtain ⟨hraw, htfine, hout⟩ := hr.nothingValid
  cases makes_of_nextTransaction hop with
  | read addr n k hok h =>
    refine ⟨?_, hok, hraw, htfine, hout, hcal⟩
    rw [h, readStep_fails, endOperation_running _ (afterBusRead s true addr n) hrun]
    rfl
  | write addr b k hok h =>
    refine ⟨?_, hok, hraw, htfine, hout, hcal⟩
    rw [h, writeStep_fails, endOperation_running _ (afterBusWrite s true addr b) hrun]
    rfl

/-! ### The bytes of a successful read (R24, R64) -/

/-- A burst loaded into a buffer: byte `i` of the burst goes to offset `start + i`, the others stay. -/
theorem getElem_loadBytes_burst {len : Nat} (buf : Vector Byte len) (start : Nat) (s : State) (addr : Byte) (n i : Nat) (h : i < len) :
    (loadBytes buf start (burst s addr n))[i] =
      if start ≤ i ∧ i < start + n then sensorByte s (addr.toNat + (i - start)) else buf[i] := by
  rw [getElem_loadBytes]
  by_cases hstart : start ≤ i
  · by_cases hend : i < start + n
    · rw [if_pos hstart, if_pos ⟨hstart, hend⟩, getD_burst _ _ _ _ _ (by omega)]
    · rw [if_pos hstart, if_neg (by omega), List.getD_eq_default _ _ (by rw [length_burst]; omega)]
  · rw [if_neg hstart, if_neg (by omega)]

/-- The first calibration block fills the buffer up to offset 24 (R205 step 4). -/
theorem loadBytes_cal1 (buf : Vector Byte 41) (s : State) : loadBytes buf 0 (burst s Config.addrCal1 Config.lenCal1) =
    Vector.ofFn fun i : Fin 41 => if i.val < 25 then sensorByte s (0x89 + i.val) else buf[i] := by
  ext i hi
  have hlen : Config.lenCal1 = 25 := rfl
  have hrange : (0 ≤ i ∧ i < 0 + Config.lenCal1) ↔ i < 25 := by omega
  rw [getElem_loadBytes_burst, Vector.getElem_ofFn, if_congr hrange rfl rfl]
  rfl

/-- The second calibration block fills the rest (R205 step 5). -/
theorem loadBytes_cal2 (buf : Vector Byte 41) (s : State) :
    loadBytes buf Config.lenCal1 (burst s Config.addrCal2 Config.lenCal2) =
      Vector.ofFn fun i : Fin 41 => if i.val < 25 then buf[i] else sensorByte s (0xE1 + (i.val - 25)) := by
  ext i hi
  have hlen1 : Config.lenCal1 = 25 := rfl
  have hlen2 : Config.lenCal2 = 16 := rfl
  have hrange : (Config.lenCal1 ≤ i ∧ i < Config.lenCal1 + Config.lenCal2) ↔ ¬ i < 25 := by omega
  rw [getElem_loadBytes_burst, Vector.getElem_ofFn, if_congr hrange rfl rfl, ite_not]
  rfl

/-- One auxiliary byte (R205 steps 6 to 8). -/
theorem loadBytes_aux (buf : Vector Byte 3) (start : Nat) (h : start < 3) (s : State) (addr : Byte) :
    loadBytes buf start (burst s addr 1) = buf.set start (sensorByte s addr.toNat) := by
  ext i hi
  rw [getElem_loadBytes_burst, Vector.getElem_set]
  by_cases hi : start = i
  · subst hi
    simp
  · rw [if_neg (by omega), if_neg hi]

/-- The field block fills its buffer (R221). -/
theorem loadBytes_field (buf : Vector Byte 15) (s : State) : loadBytes buf 0 (burst s Config.addrField Config.lenField) =
    Vector.ofFn fun i : Fin 15 => sensorByte s (0x1D + i.val) := by
  ext i hi
  rw [getElem_loadBytes_burst, Vector.getElem_ofFn, if_pos (by simp only [Config.lenField]; omega)]
  rfl

/-! ### `Init` (R205) -/

/-- `SEQ.polls` saturates at 255 in `Init` (R205 step 1). -/
theorem saturate_polls (p : BitVec 8) : (if p = 255 then 255 else p + 1) = BitVec.ofNat 8 (min (p.toNat + 1) 255) := by
  revert p; decide

theorem initPolled_done (s : State) : initPolled 0 s = goto .init 3
    { s with seq := { s.seq with polls := BitVec.ofNat 8 (min (s.seq.polls.toNat + 1) 255) } } := by
  simp only [initPolled, saturate_polls]
  rfl

theorem initPolled_again {b : Byte} (h : b ≠ 0) (s : State) : initPolled b s = startTimer (goto .init 2
    { s with seq := { s.seq with polls := BitVec.ofNat 8 (min (s.seq.polls.toNat + 1) 255) } }) := by
  simp only [initPolled, saturate_polls]
  rw [if_neg h]
  rfl

/-! The successful micro-steps of `Init`: what each makes of the answer. -/

section
variable {s : State} (hst : s.seq.state = .init)
include hst

theorem init_zero_ok (hstep : s.seq.step = 0) :
    microStep false s = .next (goto .init 1 (afterBusWrite s false Config.addrReset Config.resetKey)) := by
  rw [microStep_init false hst, initStep, hstep]; rfl

theorem init_one_ok (hstep : s.seq.step = 1) :
    microStep false s = .next (initPolled (sensorByte s 0xE0) (afterBusRead s false Config.addrReset 1)) := by
  rw [microStep_init false hst, initStep, hstep]; rfl

theorem init_three_ok (hstep : s.seq.step = 3) :
    microStep false s = .next (initIdentified (sensorByte s 0xD0) (afterBusRead s false Config.addrChipId 1)) := by
  rw [microStep_init false hst, initStep, hstep]; rfl

theorem init_four_ok (hstep : s.seq.step = 4) :
    microStep false s = .next (goto .init 5 { afterBusRead s false Config.addrCal1 Config.lenCal1 with
      calbuf := loadBytes s.calbuf 0 (burst s Config.addrCal1 Config.lenCal1) }) := by
  rw [microStep_init false hst, initStep, hstep]; rfl

theorem init_five_ok (hstep : s.seq.step = 5) :
    microStep false s = .next (goto .init 6 { afterBusRead s false Config.addrCal2 Config.lenCal2 with
      calbuf := loadBytes s.calbuf Config.lenCal1 (burst s Config.addrCal2 Config.lenCal2) }) := by
  rw [microStep_init false hst, initStep, hstep]; rfl

theorem init_six_ok (hstep : s.seq.step = 6) :
    microStep false s = .next (goto .init 7 { afterBusRead s false Config.addrResHeatRange 1 with
      auxbuf := loadBytes s.auxbuf 0 (burst s Config.addrResHeatRange 1) }) := by
  rw [microStep_init false hst, initStep, hstep]; rfl

theorem init_seven_ok (hstep : s.seq.step = 7) :
    microStep false s = .next (goto .init 8 { afterBusRead s false Config.addrResHeatVal 1 with
      auxbuf := loadBytes s.auxbuf 1 (burst s Config.addrResHeatVal 1) }) := by
  rw [microStep_init false hst, initStep, hstep]; rfl

theorem init_eight_ok (hstep : s.seq.step = 8) :
    microStep false s = .next (goto .init 9 { afterBusRead s false Config.addrRangeSwErr 1 with
      auxbuf := loadBytes s.auxbuf 2 (burst s Config.addrRangeSwErr 1) }) := by
  rw [microStep_init false hst, initStep, hstep]; rfl

end

/-- Settles O29: each row's transaction succeeds, its bytes are loaded or examined, and the sequencer goes on as the row says. -/
theorem initMicroSteps : Obligations.InitMicroSteps := by
  intro s hst b polls readTo
  refine ⟨fun hstep => ?_, fun hstep hb => ?_, fun hstep hb => ?_, fun hstep hb => ?_, fun hstep => ?_, fun hstep => ?_,
    fun hstep => ?_, fun hstep => ?_, fun hstep => ?_⟩
  case refine_1 => exact init_zero_ok hst hstep
  all_goals show microStep false s = _
  case refine_2 => rw [init_one_ok hst hstep, show sensorByte s 0xE0 = 0 from hb, initPolled_done]; rfl
  case refine_3 => rw [init_one_ok hst hstep, initPolled_again hb]; rfl
  case refine_4 => rw [init_three_ok hst hstep, initIdentified, if_pos (show sensorByte s 0xD0 = Config.chipId from hb)]; rfl
  case refine_5 => rw [init_four_ok hst hstep, loadBytes_cal1]; rfl
  case refine_6 => rw [init_five_ok hst hstep, loadBytes_cal2]; rfl
  case refine_7 => rw [init_six_ok hst hstep, loadBytes_aux _ _ (by decide)]; rfl
  case refine_8 => rw [init_seven_ok hst hstep, loadBytes_aux _ _ (by decide)]; rfl
  case refine_9 => rw [init_eight_ok hst hstep, loadBytes_aux _ _ (by decide)]; rfl

/-- Settles O31: the byte is examined, and the sequence ends while it is running. -/
theorem wrongChipIdEndsInit : Obligations.WrongChipIdEndsInit := by
  intro s hst hstep hb
  have hrun : s.seq.state ≠ .idle := by rw [hst]; decide
  rw [init_three_ok hst hstep, initIdentified, if_neg (show sensorByte s 0xD0 ≠ Config.chipId from hb),
    endOperation_running _ (afterBusRead s false Config.addrChipId 1) hrun]
  rfl

/-! ### `Configuring` and `Triggered` (R208 to R210) -/

/-- Settles O32: each row's write succeeds; its byte is the number of the control byte. -/
theorem configuringMicroSteps : Obligations.ConfiguringMicroSteps := by
  intro s wrote
  refine ⟨fun hst hstep => ?_, fun hst hstep => ?_, fun hst hstep => ?_, fun hst hstep hgas => ?_, fun hst hstep hgas => ?_,
    fun hst hstep => ?_, fun hst hstep => ?_, fun hst hstep => ?_⟩
  all_goals show microStep false s = _; simp only [hst, reduceCtorEq, if_false, if_true]
  case refine_1 => rw [← ctrlHumByte_eq, microStep_configuring false hst, configuringStep, hstep]; rfl
  case refine_2 => rw [← ctrlMeasByte_sleep, microStep_configuring false hst, configuringStep, hstep]; rfl
  case refine_3 => rw [← configByte_eq, microStep_configuring false hst, configuringStep, hstep]; rfl
  case refine_4 => rw [microStep_configuring false hst, configuringStep, hstep]; exact if_pos hgas
  case refine_5 => rw [microStep_configuring false hst, configuringStep, hstep]; exact if_neg (by simp [hgas])
  case refine_6 => rw [microStep_configuring false hst, configuringStep, hstep]; rfl
  case refine_7 => rw [microStep_configuring false hst, configuringStep, hstep]; rfl
  case refine_8 => rw [← ctrlMeasByte_forced, microStep_triggered false hst, triggeredStep, hstep]; rfl

/-! ### `Polling`, the waits and `DataReady` (R216 to R221) -/

theorem polling_zero_ok {s : State} (hst : s.seq.state = .polling) (hstep : s.seq.step = 0) :
    microStep false s = .next (polled (sensorByte s 0x1D) (afterBusRead s false Config.addrStatus 1)) := by
  rw [microStep_polling false hst, pollingStep, hstep]; rfl

/-- The poll budget as the count's value (R217). -/
theorem pollMax_iff (p : BitVec 8) : p.toNat = Config.pollMax ↔ p = 10 := by
  rw [← BitVec.toNat_inj]
  rfl

theorem polled_ready {b : Byte} (hb : b.getLsbD 7 = true) (s : State) :
    polled b s = goto .dataReady 0 { s with seq := { s.seq with polls := s.seq.polls + 1 } } := if_pos hb

theorem polled_last {b : Byte} (hb : b.getLsbD 7 = false) (s : State) (hlast : s.seq.polls + 1 = 10) :
    polled b s = goto .timedOut 0 { s with seq := { s.seq with polls := s.seq.polls + 1 } } := by
  rw [polled, if_neg (Bool.not_eq_true _ ▸ hb), if_pos ((pollMax_iff _).2 hlast)]

theorem polled_again {b : Byte} (hb : b.getLsbD 7 = false) (s : State) (hmore : s.seq.polls + 1 ≠ 10) :
    polled b s = startTimer (goto .polling 1 { s with seq := { s.seq with polls := s.seq.polls + 1 } }) := by
  rw [polled, if_neg (Bool.not_eq_true _ ▸ hb), if_neg fun h => hmore ((pollMax_iff _).1 h)]

/-- Settles O33: the three outcomes are the three branches of `polled`. -/
theorem pollExaminesBitSeven : Obligations.PollExaminesBitSeven := by
  intro s hst hstep b after
  refine ⟨fun hb => ?_, fun hb hlast => ?_, fun hb hmore => ?_⟩
  all_goals show microStep false s = _; rw [polling_zero_ok hst hstep]
  case refine_1 => rw [polled_ready hb]; rfl
  case refine_2 => rw [polled_last hb (afterBusRead s false Config.addrStatus 1) hlast]; rfl
  case refine_3 => rw [polled_again hb (afterBusRead s false Config.addrStatus 1) hmore]; rfl

/-- A wait is the wait step with 10 ms, back to the next poll (R205 step 2, R218). -/
theorem microStep_wait {s : State} (f : Bool)
    (h : (s.seq.state = .polling ∧ s.seq.step = 1) ∨ (s.seq.state = .init ∧ s.seq.step = 2)) :
    microStep f s = .next (waitStep 10 (if s.seq.state = .init then 1 else 0) s) := by
  obtain ⟨hst, hstep⟩ | ⟨hst, hstep⟩ := h
  · rw [microStep_polling f hst, pollingStep, hstep, hst]; rfl
  · rw [microStep_init f hst, initStep, hstep, hst]; rfl

/-- Settles O34: the wait step asks whether the timer has reached its bound. -/
theorem waitsLastAtLeastTenMilliseconds : Obligations.WaitsLastAtLeastTenMilliseconds := by
  intro s f ms htimer hwait
  have helapsed : delayElapsed 10 s = decide (10 ≤ ms) := by rw [delayElapsed, htimer]
  rw [microStep_wait f hwait, waitStep, helapsed]
  exact ⟨fun h => by rw [decide_eq_false (by omega)]; rfl, fun h => by rw [decide_eq_true h]; rfl⟩

/-- Settles O36: the burst fills the field buffer. -/
theorem dataReadyReadsTheFieldBlock : Obligations.DataReadyReadsTheFieldBlock := by
  intro s hst hstep
  have hread : microStep false s = .next (goto .dataReady 1 { afterBusRead s false Config.addrField Config.lenField with
      fldbuf := loadBytes s.fldbuf 0 (burst s Config.addrField Config.lenField) }) := by
    rw [microStep_dataReady false hst, dataReadyStep, hstep]; rfl
  rw [hread, loadBytes_field]
  rfl

end Sys2Proof.Machine
end

section
/-! PROOFS. A cycle ends whatever the sensor answers (R226): each of the block's own steps brings the end nearer. -/

namespace Sys2Proof.Machine

/-! ### A bound of the steps that a cycle still takes -/

/-- At most so many steps of the block's own are left of the cycle: six of `Configuring`, one of `Triggered`, for each of the ten
polls the read and a wait of at most eleven steps, and two at the end. -/
def stepsLeft (s : State) : Nat :=
  match s.seq.state with
  | .configuring => 129 - s.seq.step.toNat
  | .triggered => 123
  | .polling => 12 * (10 - s.seq.polls.toNat) + if s.seq.step = 0 then 2 else 3 + (10 - s.timer.getD 0)
  | .dataReady => 2 - s.seq.step.toNat
  | .timedOut => 1
  | .idle => 0
  | .init => 0

theorem stepsLeft_configuring {s : State} (hst : s.seq.state = .configuring) : stepsLeft s = 129 - s.seq.step.toNat := by
  rw [stepsLeft, hst]

theorem stepsLeft_triggered {s : State} (hst : s.seq.state = .triggered) : stepsLeft s = 123 := by
  rw [stepsLeft, hst]

theorem stepsLeft_poll {s : State} (hst : s.seq.state = .polling) (hstep : s.seq.step = 0) :
    stepsLeft s = 12 * (10 - s.seq.polls.toNat) + 2 := by
  rw [stepsLeft, hst, hstep]
  rfl

theorem stepsLeft_wait {s : State} {ms : Nat} (hst : s.seq.state = .polling) (hstep : s.seq.step = 1) (htimer : s.timer = some ms) :
    stepsLeft s = 12 * (10 - s.seq.polls.toNat) + (3 + (10 - ms)) := by
  rw [stepsLeft, hst, hstep, htimer]
  rfl

theorem stepsLeft_dataReady {s : State} (hst : s.seq.state = .dataReady) : stepsLeft s = 2 - s.seq.step.toNat := by
  rw [stepsLeft, hst]

theorem stepsLeft_timedOut {s : State} (hst : s.seq.state = .timedOut) : stepsLeft s = 1 := by
  rw [stepsLeft, hst]

theorem stepsLeft_lt (s : State) : stepsLeft s < 200 := by
  unfold stepsLeft
  split
  case h_3 => split <;> omega
  all_goals omega

/-! ### Each of the block's own steps brings the end nearer -/

/-- The cycle is over, or its end is nearer. -/
def CycleProgress (s t : State) : Prop :=
  (t.seq.state = .idle ∧ t.done = true) ∨ (t.inCycle = true ∧ stepsLeft t < stepsLeft s)

theorem CycleProgress.ended (s : State) (e : ErrCode) (u : State) : CycleProgress s (endOperation e u) :=
  .inl ⟨endOperation_state e u, rfl⟩

/-- A read that fails ends the cycle. -/
theorem CycleProgress.readStep {s : State} {f : Bool} {addr : Byte} {n : Nat} {k : List Byte → State → State}
    (hk : CycleProgress s (k (burst s addr n) (afterBusRead s false addr n))) : CycleProgress s (readStep s f addr n k) := by
  obtain heq | heq := readStep_cases s f addr n k <;> rw [heq]
  · exact .ended s _ _
  · exact hk

/-- A write that fails ends the cycle. -/
theorem CycleProgress.writeStep {s : State} {f : Bool} {addr b : Byte} {k : State → State}
    (hk : CycleProgress s (k (afterBusWrite s false addr b))) : CycleProgress s (writeStep s f addr b k) := by
  obtain heq | heq := writeStep_cases s f addr b k <;> rw [heq]
  · exact .ended s _ _
  · exact hk

theorem configuringStep_progress {f : Bool} {s t : State} (hst : s.seq.state = .configuring) (h : configuringStep f s = .next t) :
    CycleProgress s t := by
  have hnext : ∀ (n : BitVec 4) (u : State), s.seq.step.toNat < n.toNat → CycleProgress s (goto .configuring n u) := by
    intro n u hn
    have hleft : stepsLeft (goto .configuring n u) = 129 - n.toNat := stepsLeft_configuring rfl
    refine .inr ⟨rfl, ?_⟩
    rw [hleft, stepsLeft_configuring hst]
    omega
  have hlast : ∀ u : State, s.seq.step.toNat ≤ 5 → CycleProgress s (goto .triggered 0 u) := by
    intro u hle
    have hleft : stepsLeft (goto .triggered 0 u) = 123 := stepsLeft_triggered rfl
    refine .inr ⟨rfl, ?_⟩
    rw [hleft, stepsLeft_configuring hst]
    omega
  obtain ⟨hstep, rfl⟩ | ⟨hstep, rfl⟩ | ⟨hstep, rfl⟩ | ⟨hstep, -, rfl⟩ | ⟨hstep, -, rfl⟩ | ⟨hstep, rfl⟩ | ⟨hstep, rfl⟩ :=
    configuringStep_cases h
  · exact .writeStep (hnext 1 _ (by rw [hstep]; decide))
  · exact .writeStep (hnext 2 _ (by rw [hstep]; decide))
  · exact .writeStep (hnext 3 _ (by rw [hstep]; decide))
  · exact .writeStep (hnext 4 _ (by rw [hstep]; decide))
  · exact .writeStep (hlast _ (by rw [hstep]; decide))
  · exact .writeStep (hnext 5 _ (by rw [hstep]; decide))
  · exact .writeStep (hlast _ (by rw [hstep]; decide))

theorem startPolling_progress {s : State} (hst : s.seq.state = .triggered) (u : State) : CycleProgress s (startPolling u) := by
  have hleft : stepsLeft (startPolling u) = 122 := stepsLeft_poll rfl rfl
  refine .inr ⟨rfl, ?_⟩
  rw [hleft, stepsLeft_triggered hst]
  decide

/-- A poll uses up a twelfth of what is left, and leaves at least two steps for the end. -/
theorem polled_progress {s u : State} (hst : s.seq.state = .polling) (hstep : s.seq.step = 0)
    (hpolls : s.seq.polls.toNat < Config.pollMax) (hu : u.seq = s.seq) (b : Byte) : CycleProgress s (polled b u) := by
  have hsucc : (u.seq.polls + 1).toNat = s.seq.polls.toNat + 1 := by rw [hu, toNat_polls_succ hpolls]
  have hmax : Config.pollMax = 10 := rfl
  have hs := stepsLeft_poll hst hstep
  cases hb : b.getLsbD 7
  · by_cases hlast : u.seq.polls + 1 = 10
    · rw [polled_last hb u hlast]
      refine .inr ⟨rfl, ?_⟩
      rw [stepsLeft_timedOut rfl]
      omega
    · have hleft : stepsLeft (startTimer (goto .polling 1 { u with seq := { u.seq with polls := u.seq.polls + 1 } })) =
          12 * (10 - (u.seq.polls + 1).toNat) + 13 := stepsLeft_wait (ms := 0) rfl rfl rfl
      rw [polled_again hb u hlast]
      refine .inr ⟨rfl, ?_⟩
      omega
  · rw [polled_ready hb u]
    refine .inr ⟨rfl, ?_⟩
    rw [stepsLeft_dataReady rfl]
    simp only [goto_seq]
    omega

/-- The delay timer runs in a wait (R276). -/
theorem ControlInv.timer_of_waitBound {s : State} (h : ControlInv s) {bound : Nat} (hbound : waitBound s = some bound) :
    ∃ ms, s.timer = some ms :=
  Option.isSome_iff_exists.1 (by rw [h.timerRuns, hbound]; rfl)

/-- A wait that is over goes to the next poll. -/
theorem waitStep_progress {s : State} {ms : Nat} (hst : s.seq.state = .polling) (hstep : s.seq.step = 1) (htimer : s.timer = some ms)
    (helapsed : delayElapsed Config.pollDelayMs s = true) : CycleProgress s (waitStep Config.pollDelayMs 0 s) := by
  have hleft : stepsLeft { goto s.seq.state 0 s with timer := none } = 12 * (10 - s.seq.polls.toNat) + 2 := stepsLeft_poll hst rfl
  rw [waitStep_elapsed _ _ s helapsed]
  refine .inr ⟨(State.inCycle_eq_true _).2 (by simp [hst]), ?_⟩
  rw [hleft, stepsLeft_wait hst hstep htimer]
  omega

theorem dataReady_load_progress {s : State} (hst : s.seq.state = .dataReady) (hstep : s.seq.step = 0) (u : State) :
    CycleProgress s (goto .dataReady 1 u) := by
  have hleft : stepsLeft (goto .dataReady 1 u) = 1 := stepsLeft_dataReady rfl
  refine .inr ⟨rfl, ?_⟩
  rw [hleft, stepsLeft_dataReady hst, hstep]
  decide

/-- A micro-step of a cycle brings the end nearer, a wait's when its time has passed. -/
theorem microStep_progress {f : Bool} {s t : State} (hinv : ControlInv s) (hcycle : s.inCycle = true)
    (helapsed : ∀ bound, waitBound s = some bound → delayElapsed bound s = true) (h : microStep f s = .next t) :
    CycleProgress s t := by
  obtain ⟨hidle, hinit⟩ := (State.inCycle_eq_true s).1 hcycle
  obtain ⟨hst, -⟩ | ⟨hst, -⟩ | ⟨hst, h⟩ | ⟨hst, -, rfl⟩ | ⟨hst, hstep, rfl⟩ | ⟨hst, hstep, rfl⟩ | ⟨hst, hstep, rfl⟩ |
    ⟨hst, hstep, rfl⟩ | ⟨hst, hstep, rfl⟩ := microStep_cases h
  · exact absurd hst hidle
  · exact absurd hst hinit
  · exact configuringStep_progress hst h
  · exact .writeStep (startPolling_progress hst _)
  · exact .readStep (polled_progress (u := afterBusRead s false Config.addrStatus 1) hst hstep (hinv.pollsLeft hst) rfl _)
  · have hbound : waitBound s = some Config.pollDelayMs := by simp [waitBound, hst, hstep]
    obtain ⟨ms, htimer⟩ := hinv.timer_of_waitBound hbound
    exact waitStep_progress hst hstep htimer (helapsed _ hbound)
  · exact .readStep (dataReady_load_progress hst hstep _)
  · exact .ended s _ _
  · exact .ended s _ _

/-- Time that passes in a wait brings its end nearer (log entry 14). -/
theorem passTime_progress {s : State} {bound x : Nat} (hinv : ControlInv s) (hcycle : s.inCycle = true) (hbound : waitBound s = some bound)
    (hearly : delayElapsed bound s = false) : CycleProgress s (passTime (1 + x) s.nextDraw) := by
  have hinit := ((State.inCycle_eq_true s).1 hcycle).2
  have hst : s.seq.state = .polling := by
    by_contra hpoll
    simp [waitBound_eq_none hinit hpoll] at hbound
  obtain ⟨hstep, rfl⟩ : s.seq.step = 1 ∧ Config.pollDelayMs = bound := by simpa [waitBound, hst] using hbound
  obtain ⟨ms, htimer⟩ := hinv.timer_of_waitBound hbound
  have hms : ms < 10 := by
    rw [delayElapsed, htimer] at hearly
    exact not_le.1 (of_decide_eq_false hearly)
  have hleft : stepsLeft (passTime (1 + x) s.nextDraw) = 12 * (10 - s.seq.polls.toNat) + (3 + (10 - (ms + (1 + x)))) :=
    stepsLeft_wait hst hstep (congrArg (Option.map (· + (1 + x))) htimer)
  refine .inr ⟨hcycle, ?_⟩
  rw [hleft, stepsLeft_wait hst hstep htimer]
  omega

/-- With nothing scheduled the block takes a step of its own, which brings the end of the cycle nearer. -/
theorem autonomous_progress {s t : State} (hinv : ControlInv s) (hcycle : s.inCycle = true) (h : autonomous s = .next t) :
    CycleProgress s t ∧ t.inputs = s.inputs := by
  have hmicro : ∀ f, microStep f s = .next t → t.inputs = s.inputs := by
    intro f ht
    obtain hsame | ⟨-, -, rfl⟩ | ⟨-, -, rfl⟩ := microStep_data ht
    · exact hsame.inputs
    · rfl
    · simp [cycleFinish, compAll]
  unfold autonomous at h
  split at h
  next bound hbound =>
    split at h
    next helapsed =>
      exact ⟨microStep_progress hinv hcycle (fun b hb => by rw [hbound] at hb; cases hb; exact helapsed) h, hmicro _ h⟩
    next hearly =>
      cases h
      exact ⟨passTime_progress hinv hcycle hbound (by simpa using hearly), rfl⟩
  next hnone => exact ⟨microStep_progress hinv hcycle (fun b hb => by rw [hnone] at hb; cases hb) h, hmicro _ h⟩

/-! ### The end of a cycle (R226) -/

/-- A run goes on from the state after its first step. -/
theorem run_succ {s t : State} (h : step s = .next t) (k : Nat) : core.run (k + 1) s = core.run k t := by
  have hstep : core.step s = .next t := h
  simp only [Host.Core.run, hstep]

/-- The cycle ends within the bound, by induction on the bound. -/
theorem cycle_ends (k : Nat) (s : State) (hinv : ControlInv s) (hcycle : s.inCycle = true) (hin : s.inputs = [])
    (hk : stepsLeft s < k) : ∃ (n : Nat) (t : State), n ≤ k ∧ core.run n s = .next t ∧ t.seq.state = .idle ∧ t.done = true := by
  induction k generalizing s with
  | zero => omega
  | succ k ih =>
    obtain ⟨t, ht⟩ := legalStatesNeverStop s hinv
    obtain ⟨hprogress, hinputs⟩ := autonomous_progress hinv hcycle (step_empty s hin ▸ ht)
    obtain ⟨hidle, hdone⟩ | ⟨hcycle', hless⟩ := hprogress
    · exact ⟨1, t, by omega, run_succ ht 0, hidle, hdone⟩
    · obtain ⟨n, u, hn, hrun, hend⟩ := ih t (controlInvariantKept s t hinv ht) hcycle' (hinputs.trans hin) (by omega)
      exact ⟨n + 1, u, by omega, (run_succ ht n).trans hrun, hend⟩

/-- Settles O56: no position is further from the end than the bound. -/
theorem cyclesEnd : Obligations.CyclesEnd :=
  fun s hinv hcycle hin => cycle_ends 200 s hinv hcycle hin (stepsLeft_lt s)

end Sys2Proof.Machine
end

section
/-! PROOFS. Runs over a schedule: what a run does to the block, and the poll loop (R216 to R218). -/

namespace Sys2Proof.Machine

/-! ### A run takes events off the schedule and makes transactions -/

/-- Running over the scheduled events `events` leads from `s` to `t`: the transactions `made` (last one first) are added to the trace,
and the data registers and the rejection stay. -/
structure Runs (events : List Input) (made : List Transaction) (s t : State) : Prop where
  run : ∀ k, core.run (k + events.length) s = core.run k t
  inputs : s.inputs = events ++ t.inputs
  data : t.data = s.data
  rej : t.rej = s.rej
  trace : t.trace = made ++ s.trace

theorem Runs.trans {es es' : List Input} {ms ms' : List Transaction} {s t u : State} (h : Runs es ms s t) (h' : Runs es' ms' t u) :
    Runs (es ++ es') (ms' ++ ms) s u where
  run k := by rw [List.length_append, Nat.add_comm es.length, ← Nat.add_assoc, h.run, h'.run]
  inputs := by rw [h.inputs, h'.inputs, List.append_assoc]
  data := h'.data.trans h.data
  rej := h'.rej.trans h.rej
  trace := by rw [h'.trace, h.trace, List.append_assoc]

/-- What is left of the schedule. -/
theorem Runs.rest {es rest : List Input} {ms : List Transaction} {s t : State} (h : Runs es ms s t) (hin : s.inputs = es ++ rest) :
    t.inputs = rest :=
  List.append_cancel_left (h.inputs.symm.trans hin)

theorem Runs.refl (s : State) : Runs [] [] s s := ⟨fun _ => rfl, rfl, rfl, rfl, rfl⟩

/-- One event that leaves the data registers. -/
theorem Runs.event {e : Input} {rest : List Input} {made : List Transaction} {s t : State} (hin : s.inputs = e :: rest)
    (h : runInput e { s with inputs := rest } = .next t) (hsame : SameData { s with inputs := rest } t)
    (htrace : t.trace = made ++ s.trace) : Runs [e] made s t where
  run := run_succ (step_input s e rest hin ▸ h)
  inputs := by rw [hin, hsame.inputs]; rfl
  data := hsame.1
  rej := hsame.rej
  trace := htrace

/-- A sensor register changes by itself. -/
theorem Runs.sensor {addr v : Byte} {rest : List Input} {s : State} (hin : s.inputs = .sensor addr v :: rest) :
    Runs [.sensor addr v] [] s { s with inputs := rest, sensor := s.sensor.set addr.toNat v } :=
  .event hin rfl ⟨rfl, rfl⟩ rfl

/-- A listed register is read as it is listed (R64). -/
theorem sensorByte_of_get? {s : State} {a : Nat} {v : Byte} (h : s.sensor.get? a = some v) : sensorByte s a = v := by
  rw [sensorByte, h]
  rfl

/-! ### The poll loop (R216 to R218) -/

/-- The position after a poll that answered `b`, the count being `p` then. -/
def afterPoll (b : Byte) (p : BitVec 8) : SeqRegs :=
  if b.getLsbD 7 then ⟨.dataReady, 0, p⟩ else if p = 10 then ⟨.timedOut, 0, p⟩ else ⟨.polling, 1, p⟩

theorem polled_seq (b : Byte) (s : State) : (polled b s).seq = afterPoll b (s.seq.polls + 1) := by
  cases hb : b.getLsbD 7
  · by_cases hlast : s.seq.polls + 1 = 10
    · rw [polled_last hb s hlast, afterPoll, hb, hlast]; rfl
    · rw [polled_again hb s hlast, afterPoll, hb, if_neg (by decide), if_neg hlast]; rfl
  · rw [polled_ready hb s, afterPoll, if_pos hb]; rfl

/-- A poll that must be repeated starts the timer (R276). -/
theorem polled_timer (b : Byte) (s : State) (h : (polled b s).seq.state = .polling) : (polled b s).timer = some 0 := by
  cases hb : b.getLsbD 7
  · by_cases hlast : s.seq.polls + 1 = 10
    · rw [polled_last hb s hlast] at h; cases h
    · rw [polled_again hb s hlast]; rfl
  · rw [polled_ready hb s] at h; cases h

/-- A poll that reads `b`. -/
theorem poll_runs {s : State} {b : Byte} {p : BitVec 8} {rest : List Input} (hseq : s.seq = ⟨.polling, 0, p⟩)
    (hin : s.inputs = .turn false :: rest) (hb : sensorByte s 0x1D = b) :
    ∃ t, Runs [.turn false] [⟨.read 0x1D 1, .ok [b]⟩] s t ∧ t.seq = afterPoll b (p + 1) ∧
      (t.seq.state = .polling → t.timer = some 0) := by
  have hmicro := polling_zero_ok (s := { s with inputs := rest }) (congrArg SeqRegs.state hseq) (congrArg SeqRegs.step hseq)
  have hpolls : s.seq.polls = p := congrArg SeqRegs.polls hseq
  rw [show sensorByte { s with inputs := rest } 0x1D = b from hb] at hmicro
  refine ⟨_, .event hin hmicro (.trans ⟨rfl, rfl⟩ (polled_sameData b _)) ?_, ?_, polled_timer b _⟩
  · rw [(polled_sameBus b _).2, ← hb]
    rfl
  · rw [polled_seq, ← hpolls]
    rfl

/-- A poll of the status byte that the sensor has just set. -/
theorem setAndPoll_runs {s : State} {b : Byte} {p : BitVec 8} {rest : List Input} (hseq : s.seq = ⟨.polling, 0, p⟩)
    (hin : s.inputs = .sensor 0x1D b :: .turn false :: rest) :
    ∃ t, Runs [.sensor 0x1D b, .turn false] [⟨.read 0x1D 1, .ok [b]⟩] s t ∧ t.seq = afterPoll b (p + 1) ∧
      (t.seq.state = .polling → t.timer = some 0) := by
  have hset := Runs.sensor hin
  have hget : (s.sensor.set (0x1D : Byte).toNat b).get? 0x1D = some b := by rw [Memory.get?_set]; rfl
  obtain ⟨t, hpoll, hpos⟩ := poll_runs (s := { s with inputs := .turn false :: rest, sensor := s.sensor.set (0x1D : Byte).toNat b }) hseq rfl
    (sensorByte_of_get? hget)
  exact ⟨t, hset.trans hpoll, hpos⟩

/-- A wait of 10 ms that its turn ends. -/
theorem wait_runs {s : State} {p : BitVec 8} {rest : List Input} (hseq : s.seq = ⟨.polling, 1, p⟩) (htimer : s.timer = some 0)
    (hin : s.inputs = .time 10 :: .turn false :: rest) : ∃ t, Runs [.time 10, .turn false] [] s t ∧ t.seq = ⟨.polling, 0, p⟩ := by
  have htime : Runs [.time 10] [] s (passTime 10 { s with inputs := .turn false :: rest }) := .event hin rfl ⟨rfl, rfl⟩ rfl
  have hmicro : microStep false (passTime 10 { s with inputs := rest }) =
      .next { passTime 10 { s with inputs := rest } with timer := none, seq := ⟨.polling, 0, p⟩ } := by
    have hwait := (waitsLastAtLeastTenMilliseconds (passTime 10 { s with inputs := rest }) false 10
      (congrArg (Option.map (· + 10)) htimer) (.inl (by simp [passTime, hseq]))).2 (le_refl 10)
    rw [hwait]
    simp [passTime, hseq]
  exact ⟨_, htime.trans (.event (made := []) rfl hmicro ⟨rfl, rfl⟩ rfl), rfl⟩

/-- The events of a poll that must be repeated, with its wait. -/
def pollAgain (b : Byte) : List Input := [.sensor 0x1D b, .turn false, .time 10, .turn false]

/-- Polls that are not ready, as long as the budget lasts: each makes one read and counts. -/
theorem polls_run (n : Nat) {s : State} {b : Byte} {p : BitVec 8} {rest : List Input} (hb : b.getLsbD 7 = false)
    (hseq : s.seq = ⟨.polling, 0, p⟩) (hp : p.toNat + n < 10) (hin : s.inputs = (List.replicate n (pollAgain b)).flatten ++ rest) :
    ∃ made t, Runs (List.replicate n (pollAgain b)).flatten made s t ∧ made.length = n ∧
      t.seq = ⟨.polling, 0, p + BitVec.ofNat 8 n⟩ := by
  induction n generalizing s p with
  | zero => exact ⟨[], s, .refl s, rfl, by simpa using hseq⟩
  | succ n ih =>
    rw [List.replicate_succ, List.flatten_cons, List.append_assoc] at hin
    have hsucc : (p + 1).toNat = p.toNat + 1 := toNat_polls_succ (show p.toNat < 10 by omega)
    have hmore : p + 1 ≠ 10 := by
      intro h
      rw [h, show (10 : BitVec 8).toNat = 10 from rfl] at hsucc
      omega
    obtain ⟨u, hpoll, huseq, hutimer⟩ := setAndPoll_runs hseq hin
    rw [afterPoll, hb, if_neg (by decide), if_neg hmore] at huseq
    obtain ⟨v, hwait, hvseq⟩ := wait_runs huseq (hutimer (by rw [huseq])) (hpoll.rest hin)
    have hloop := hpoll.trans hwait
    obtain ⟨made, t, hruns, hlen, htseq⟩ := ih hvseq (by omega) (hloop.rest hin)
    refine ⟨_, t, hloop.trans hruns, ?_, ?_⟩
    · rw [List.length_append, hlen]; rfl
    · rw [htseq, BitVec.add_assoc, Nat.add_comm n 1, BitVec.ofNat_add]; rfl

/-- Settles O55: nine polls that are not ready, and the tenth. -/
theorem tenthPollDecides : Obligations.TenthPollDecides := by
  intro s b b' hseq hb hin
  obtain ⟨made, u, hnine, hlen, huseq⟩ := polls_run 9 hb hseq (by decide) hin
  obtain ⟨t, htenth, htseq, -⟩ := setAndPoll_runs huseq (hnine.rest hin)
  have hruns := hnine.trans htenth
  have hten : afterPoll b' 10 = ⟨if b'.getLsbD 7 then .dataReady else .timedOut, 0, 10⟩ := by
    unfold afterPoll
    split <;> rfl
  rw [show (0 : BitVec 8) + BitVec.ofNat 8 9 + 1 = 10 from rfl, hten] at htseq
  refine ⟨t, hruns.run 0, by rw [htseq], by rw [htseq], by rw [htseq], ?_⟩
  rw [hruns.trace, List.length_append, List.length_append, hlen, Nat.add_comm]
  rfl

end Sys2Proof.Machine
end

section
/-! PROOFS. An `INIT` that meets no failure, as a run over its schedule (R205, R206, R225). -/

namespace Sys2Proof.Machine

/-! ### The sensor's calibration registers stay listed (R70) -/

/-- A constant register does not change by itself (R70). -/
theorem volatileAddr_of_constantAddr {a : Nat} (h : constantAddr a = true) : volatileAddr a = false := by
  rw [constantAddr_eq] at h
  rw [volatileAddr_eq]
  simp only [Bool.or_eq_true, Bool.and_eq_true, beq_iff_eq, decide_eq_true_eq, Bool.or_eq_false_iff, Bool.and_eq_false_iff,
    beq_eq_false_iff_ne, decide_eq_false_iff_not] at h ⊢
  omega

/-- The sensor lists the chip id, the calibration image and the auxiliary bytes. -/
structure ListsCalibration (image : Vector Byte 41) (aux : Vector Byte 3) (s : State) : Prop where
  chipId : s.sensor.get? 0xD0 = some 0x61
  image : ∀ i : Fin 41, s.sensor.get? (if i.val < 25 then 0x89 + i.val else 0xE1 + (i.val - 25)) = some image[i]
  aux0 : s.sensor.get? 0x02 = some aux[0]
  aux1 : s.sensor.get? 0x00 = some aux[1]
  aux2 : s.sensor.get? 0x04 = some aux[2]

/-- All of these registers are constant ones. -/
theorem ListsCalibration.of_constant {image : Vector Byte 41} {aux : Vector Byte 3} {s t : State} (h : ListsCalibration image aux s)
    (hsame : ∀ a, constantAddr a = true → t.sensor.get? a = s.sensor.get? a) : ListsCalibration image aux t where
  chipId := (hsame 0xD0 (by decide)).trans h.chipId
  image i := (hsame _ (by revert i; decide)).trans (h.image i)
  aux0 := (hsame 0x02 (by decide)).trans h.aux0
  aux1 := (hsame 0x00 (by decide)).trans h.aux1
  aux2 := (hsame 0x04 (by decide)).trans h.aux2

/-- A read leaves them known. -/
theorem ListsCalibration.afterRead {image : Vector Byte 41} {aux : Vector Byte 3} {s t : State} {a n : Nat}
    (h : ListsCalibration image aux s) (ht : t.sensor = s.sensor.afterRead a n) : ListsCalibration image aux t :=
  h.of_constant fun k hk => by
    rw [ht, Memory.get?_afterRead, volatileAddr_of_constantAddr hk, Bool.and_false]
    rfl

/-- So does the soft reset of the sensor (R50). -/
theorem ListsCalibration.afterReset {image : Vector Byte 41} {aux : Vector Byte 3} {s t : State} {v : Byte}
    (h : ListsCalibration image aux s) (ht : t.sensor = s.sensor.afterWrite 0xE0 v) : ListsCalibration image aux t :=
  h.of_constant fun k hk => by
    rw [ht, Memory.afterWrite_volatile _ _ (by decide), Memory.get?_afterWriteAttempt_reset, hk]
    rfl

/-- And the end of the soft reset, which the sensor shows in its register 0xE0. -/
theorem ListsCalibration.set {image : Vector Byte 41} {aux : Vector Byte 3} {s t : State} {v : Byte}
    (h : ListsCalibration image aux s) (ht : t.sensor = s.sensor.set 0xE0 v) : ListsCalibration image aux t :=
  h.of_constant fun k hk => by
    have hne : ¬ 0xE0 = k := by rintro rfl; exact absurd hk (by decide)
    rw [ht, Memory.get?_set, if_neg hne]

/-! ### The rows of `Init` as runs (R205) -/

/-- `INIT` is at step `n` with `p` polls counted, and the sensor lists its calibration registers. -/
structure InitAt (image : Vector Byte 41) (aux : Vector Byte 3) (n : BitVec 4) (p : BitVec 8) (s : State) : Prop where
  seq : s.seq = ⟨.init, n, p⟩
  lists : ListsCalibration image aux s

section
variable {image : Vector Byte 41} {aux : Vector Byte 3} {n : BitVec 4} {p : BitVec 8} {s t : State} {rest : List Input}

theorem InitAt.state (h : InitAt image aux n p s) : s.seq.state = .init := by rw [h.seq]

theorem InitAt.step (h : InitAt image aux n p s) : s.seq.step = n := by rw [h.seq]

/-- A micro-step that reads and then only keeps its books. -/
theorem read_runs {addr : Byte} {len : Nat} (hin : s.inputs = .turn false :: rest)
    (hmicro : microStep false { s with inputs := rest } = .next t)
    (hsame : SameData (afterBusRead { s with inputs := rest } false addr len) t)
    (hbus : SameBus (afterBusRead { s with inputs := rest } false addr len) t) :
    Runs [.turn false] [⟨.read addr len, .ok (burst s addr len)⟩] s t :=
  .event hin hmicro (.trans ⟨rfl, rfl⟩ hsame) hbus.2

/-- Step 0: the soft reset. -/
theorem softReset_runs (h : InitAt image aux 0 p s) (hin : s.inputs = .turn false :: rest) :
    ∃ t, Runs [.turn false] [⟨.write 0xE0 [0xB6], .ok []⟩] s t ∧ InitAt image aux 1 p t := by
  have hmicro := init_zero_ok (s := { s with inputs := rest }) h.state h.step
  refine ⟨_, .event hin hmicro ⟨rfl, rfl⟩ rfl, ?_, h.lists.afterReset (v := 0xB6) rfl⟩
  exact congrArg (fun q : SeqRegs => SeqRegs.mk .init 1 q.polls) h.seq

/-- The sensor shows the end of its soft reset. -/
theorem resetEnds_runs (h : InitAt image aux n p s) (hin : s.inputs = .sensor 0xE0 0 :: rest) :
    ∃ t, Runs [.sensor 0xE0 0] [] s t ∧ InitAt image aux n p t ∧ t.sensor.get? 0xE0 = some 0 :=
  ⟨_, Runs.sensor hin, ⟨h.seq, h.lists.set (v := 0) rfl⟩, (Memory.get?_set _ _ _ _).trans (if_pos rfl)⟩

/-- Step 1, once the sensor shows the end of the soft reset. -/
theorem resetDone_runs (h : InitAt image aux 1 p s) (hin : s.inputs = .turn false :: rest) (hb : s.sensor.get? 0xE0 = some 0) :
    ∃ t, Runs [.turn false] [⟨.read 0xE0 1, .ok (burst s 0xE0 1)⟩] s t ∧
      InitAt image aux 3 (BitVec.ofNat 8 (min (p.toNat + 1) 255)) t := by
  have hmicro := init_one_ok (s := { s with inputs := rest }) h.state h.step
  rw [show sensorByte { s with inputs := rest } 0xE0 = 0 from sensorByte_of_get? hb, initPolled_done] at hmicro
  refine ⟨_, read_runs hin hmicro ⟨rfl, rfl⟩ ⟨rfl, rfl⟩, ?_, h.lists.afterRead (a := 0xE0) (n := 1) rfl⟩
  exact congrArg (fun q : SeqRegs => SeqRegs.mk .init 3 (BitVec.ofNat 8 (min (q.polls.toNat + 1) 255))) h.seq

/-- Step 3: the chip id is the expected one. -/
theorem chipId_runs (h : InitAt image aux 3 p s) (hin : s.inputs = .turn false :: rest) :
    ∃ t, Runs [.turn false] [⟨.read 0xD0 1, .ok (burst s 0xD0 1)⟩] s t ∧ InitAt image aux 4 p t := by
  have hmicro := init_three_ok (s := { s with inputs := rest }) h.state h.step
  rw [show sensorByte { s with inputs := rest } 0xD0 = Config.chipId from sensorByte_of_get? h.lists.chipId, initIdentified,
    if_pos rfl] at hmicro
  refine ⟨_, read_runs hin hmicro ⟨rfl, rfl⟩ ⟨rfl, rfl⟩, ?_, h.lists.afterRead rfl⟩
  simp [h.seq]

/-- A micro-step that loads the bytes of a read into a buffer. -/
theorem load_runs {m : BitVec 4} {addr : Byte} {len : Nat} {c : Vector Byte 41} {a : Vector Byte 3} (h : InitAt image aux n p s)
    (hin : s.inputs = .turn false :: rest)
    (hmicro : microStep false { s with inputs := rest } =
      .next (goto .init m { afterBusRead { s with inputs := rest } false addr len with calbuf := c, auxbuf := a })) :
    ∃ t, Runs [.turn false] [⟨.read addr len, .ok (burst s addr len)⟩] s t ∧ InitAt image aux m p t ∧ t.calbuf = c ∧ t.auxbuf = a :=
  ⟨_, read_runs hin hmicro ⟨rfl, rfl⟩ ⟨rfl, rfl⟩,
    ⟨congrArg (fun q : SeqRegs => SeqRegs.mk .init m q.polls) h.seq, h.lists.afterRead (a := addr.toNat) (n := len) rfl⟩, rfl, rfl⟩

/-- Step 4: the first calibration block. -/
theorem cal1_runs (h : InitAt image aux 4 p s) (hin : s.inputs = .turn false :: rest) :
    ∃ t, Runs [.turn false] [⟨.read 0x89 25, .ok (burst s 0x89 25)⟩] s t ∧ InitAt image aux 5 p t ∧
      ∀ i : Fin 41, i.val < 25 → t.calbuf[i] = image[i] := by
  obtain ⟨t, hruns, hat, hcal, -⟩ := load_runs h hin (init_four_ok (s := { s with inputs := rest }) h.state h.step)
  refine ⟨t, hruns, hat, fun i hi => ?_⟩
  have hget := h.lists.image i
  rw [if_pos hi] at hget
  rw [hcal, loadBytes_cal1, Fin.getElem_fin, Vector.getElem_ofFn, if_pos hi]
  exact sensorByte_of_get? hget

/-- Step 5: the second calibration block completes the image. -/
theorem cal2_runs (h : InitAt image aux 5 p s) (hin : s.inputs = .turn false :: rest)
    (hfirst : ∀ i : Fin 41, i.val < 25 → s.calbuf[i] = image[i]) :
    ∃ t, Runs [.turn false] [⟨.read 0xE1 16, .ok (burst s 0xE1 16)⟩] s t ∧ InitAt image aux 6 p t ∧ t.calbuf = image := by
  obtain ⟨t, hruns, hat, hcal, -⟩ := load_runs h hin (init_five_ok (s := { s with inputs := rest }) h.state h.step)
  refine ⟨t, hruns, hat, ?_⟩
  rw [hcal, loadBytes_cal2]
  refine Vector.ext fun i hi => ?_
  rw [Vector.getElem_ofFn]
  split
  next hlow => exact hfirst ⟨i, hi⟩ hlow
  next hhigh =>
    have hget := h.lists.image ⟨i, hi⟩
    rw [if_neg hhigh] at hget
    exact sensorByte_of_get? hget

/-- Steps 6 to 8: one auxiliary byte each. -/
theorem aux_runs {m : BitVec 4} {addr : Byte} {k : Nat} (hk : k < 3) (h : InitAt image aux n p s)
    (hin : s.inputs = .turn false :: rest) (hget : s.sensor.get? addr.toNat = some aux[k])
    (hmicro : microStep false { s with inputs := rest } =
      .next (goto .init m { afterBusRead { s with inputs := rest } false addr 1 with
        auxbuf := loadBytes s.auxbuf k (burst { s with inputs := rest } addr 1) })) :
    ∃ t, Runs [.turn false] [⟨.read addr 1, .ok (burst s addr 1)⟩] s t ∧ InitAt image aux m p t ∧ t.calbuf = s.calbuf ∧
      t.auxbuf = s.auxbuf.set k aux[k] := by
  obtain ⟨t, hruns, hat, hcal, haux⟩ := load_runs h hin hmicro
  refine ⟨t, hruns, hat, hcal, ?_⟩
  rw [haux, loadBytes_aux _ _ hk]
  exact congrArg (s.auxbuf.set k · hk) (sensorByte_of_get? hget)

/-- Three bytes written one by one make up the whole auxiliary buffer. -/
theorem set_three_bytes (v w : Vector Byte 3) : ((v.set 0 w[0]).set 1 w[1]).set 2 w[2] = w := by
  refine Vector.ext fun i hi => ?_
  simp only [Vector.getElem_set]
  interval_cases i <;> rfl

/-- The events over which the rows follow one another, the soft reset being over at the first poll. -/
def initEvents : List Input :=
  [.turn false, .sensor 0xE0 0, .turn false, .turn false, .turn false, .turn false, .turn false, .turn false, .turn false]

/-- The rows of R205 one after the other: their transactions, and the buffers filled. -/
theorem init_runs (h : InitAt image aux 0 0 s) (hin : s.inputs = initEvents ++ rest) :
    ∃ made t, Runs initEvents made s t ∧ InitAt image aux 9 1 t ∧ t.calbuf = image ∧ t.auxbuf = aux ∧
      made.map (fun x => x.op) = [.read 0x04 1, .read 0x00 1, .read 0x02 1, .read 0xE1 16, .read 0x89 25, .read 0xD0 1,
        .read 0xE0 1, .write 0xE0 [0xB6]] := by
  obtain ⟨s1, hruns0, hat1⟩ := softReset_runs h hin
  obtain ⟨s2, hrun, hat2, hget⟩ := resetEnds_runs hat1 (hruns0.rest hin)
  have hruns1 := hruns0.trans hrun
  obtain ⟨s3, hrun, hat3⟩ := resetDone_runs hat2 (hruns1.rest hin) hget
  have hruns3 := hruns1.trans hrun
  obtain ⟨s4, hrun, hat4⟩ := chipId_runs hat3 (hruns3.rest hin)
  have hruns4 := hruns3.trans hrun
  obtain ⟨s5, hrun, hat5, hcal5⟩ := cal1_runs hat4 (hruns4.rest hin)
  have hruns5 := hruns4.trans hrun
  obtain ⟨s6, hrun, hat6, hcal6⟩ := cal2_runs hat5 (hruns5.rest hin) hcal5
  have hruns6 := hruns5.trans hrun
  obtain ⟨s7, hrun, hat7, hcal7, haux7⟩ := aux_runs (addr := 0x02) (by decide) hat6 (hruns6.rest hin) hat6.lists.aux0
    (init_six_ok hat6.state hat6.step)
  have hruns7 := hruns6.trans hrun
  obtain ⟨s8, hrun, hat8, hcal8, haux8⟩ := aux_runs (addr := 0x00) (by decide) hat7 (hruns7.rest hin) hat7.lists.aux1
    (init_seven_ok hat7.state hat7.step)
  have hruns8 := hruns7.trans hrun
  obtain ⟨s9, hrun, hat9, hcal9, haux9⟩ := aux_runs (addr := 0x04) (by decide) hat8 (hruns8.rest hin) hat8.lists.aux2
    (init_eight_ok hat8.state hat8.step)
  refine ⟨_, s9, hruns8.trans hrun, hat9, by rw [hcal9, hcal8, hcal7, hcal6], ?_, rfl⟩
  rw [haux9, haux8, haux7, set_three_bytes]

end

/-- The acceptance of `INIT`, as a step (R204). -/
theorem init_accepted {s : State} {rest : List Input} (hidle : s.seq.state = .idle) (hin : s.inputs = .host (.write 0 1) :: rest) :
    ∃ t, step s = .next t ∧ t.inputs = rest ∧ t.seq = ⟨.init, 0, 0⟩ ∧ t.sensor = s.sensor ∧ t.trace = s.trace ∧ t.rej = s.rej ∧
      t.cfg = s.cfg ∧ t.rawValid = false ∧ t.tfineValid = false ∧ t.outValid = false :=
  ⟨_, (step_input s _ _ hin).trans ((runInput_command _ (decodeCommand_encodeCommand .init)).trans
    (initIsAccepted { s with inputs := rest } hidle)), rfl, rfl, rfl, rfl, rfl, rfl, rfl, rfl, rfl⟩

/-- The last micro-step of `INIT`, as a step (R206). -/
theorem initFinish_step {s : State} {p : BitVec 8} (hseq : s.seq = ⟨.init, 9, p⟩) (hin : s.inputs = [.turn false]) :
    step s = .next { s with
      inputs := []
      cal := calDecode Config.calLayout s.calbuf s.auxbuf
      calValid := true
      err := .ok
      done := true
      seq := ⟨.idle, 0, p⟩ } := by
  have hst : s.seq.state = .init := by rw [hseq]
  have hmicro := microStep_init_nine (s := { s with inputs := [] }) false hst (by rw [hseq])
  rw [initFinish_eq _ (by simp [hst]), show s.seq.polls = p by rw [hseq]] at hmicro
  exact (step_input s _ _ hin).trans hmicro

/-- Settles O53: the acceptance, the rows of R205, and the decode of R206. -/
theorem initReadsTheCalibration : Obligations.InitReadsTheCalibration := by
  intro s image aux hidle hin hchip himage haux0 haux1 haux2
  obtain ⟨u, haccept, huin, huseq, husensor, hutrace, hurej, hucfg, huraw, hutfine, huout⟩ := init_accepted hidle hin
  have hlists : ListsCalibration image aux u :=
    ListsCalibration.of_constant ⟨hchip, himage, haux0, haux1, haux2⟩ fun _ _ => by rw [husensor]
  obtain ⟨made, v, hruns, hat, hcal, haux, hops⟩ := init_runs (rest := [.turn false]) ⟨huseq, hlists⟩ huin
  have hlast := initFinish_step hat.seq (hruns.rest huin)
  have hdata := hruns.data
  refine ⟨_, (run_succ haccept 10).trans ((hruns.run 1).trans (run_succ hlast 0)), ?_⟩
  have hcfg : v.cfg = s.cfg := (congrArg DataRegs.cfg hdata).trans hucfg
  have hraw : v.rawValid = false := (congrArg DataRegs.rawValid hdata).trans huraw
  have htfine : v.tfineValid = false := (congrArg DataRegs.tfineValid hdata).trans hutfine
  have hout : v.outValid = false := (congrArg DataRegs.outValid hdata).trans huout
  refine ⟨by rw [hcal, haux], hcal, haux, rfl, hraw, htfine, hout, rfl, rfl, rfl, hcfg, hruns.rej.trans hurej, ?_⟩
  rw [hruns.trace, List.map_append, hops, hutrace]

end Sys2Proof.Machine
end

section
/-! PROOFS. A `MEASURE` that meets no failure, with gas enabled and ready on the first poll, as a run over its schedule (R207 to
R222, R225). -/

namespace Sys2Proof.Machine

/-! ### `Configuring` and `Triggered` as runs (R208 to R210) -/

/-- A micro-step whose write succeeds and that then goes to step `n` of `st`, no poll being counted. -/
theorem write_runs {s : State} {c : CfgRegs} {addr b : Byte} {st₀ st : SeqState} {n₀ n : BitVec 4} {rest : List Input}
    (hin : s.inputs = .turn false :: rest) (hcfg : s.cfg = c) (hseq : s.seq = ⟨st₀, n₀, 0⟩)
    (hmicro : microStep false { s with inputs := rest } = .next { s with
      inputs := rest
      trace := ⟨.write addr [b], .ok []⟩ :: s.trace
      sensor := s.sensor.afterWrite addr.toNat b
      draws := s.draws + 1
      seq := ⟨st, n, if s.seq.state = .triggered then 0 else s.seq.polls⟩ }) :
    ∃ t, Runs [.turn false] [⟨.write addr [b], .ok []⟩] s t ∧ t.cfg = c ∧ t.seq = ⟨st, n, 0⟩ := by
  refine ⟨_, .event hin hmicro ⟨rfl, rfl⟩ rfl, hcfg, ?_⟩
  simp [hseq]

/-- The writes of a cycle with gas enabled, last one first: the trigger, `ctrl_gas_1`, the heater codes, and the sampling fields. -/
def cycleWrites (c : CfgRegs) : List Transaction :=
  [⟨.write 0x74 [BitVec.ofNat 8 (32 * c.osT.toNat + 4 * c.osP.toNat + 1)], .ok []⟩, ⟨.write 0x71 [0x10], .ok []⟩,
    ⟨.write 0x64 [c.gasWait], .ok []⟩, ⟨.write 0x5A [c.resHeat], .ok []⟩,
    ⟨.write 0x75 [BitVec.ofNat 8 (4 * c.filter.toNat)], .ok []⟩,
    ⟨.write 0x74 [BitVec.ofNat 8 (32 * c.osT.toNat + 4 * c.osP.toNat)], .ok []⟩,
    ⟨.write 0x72 [BitVec.ofNat 8 c.osH.toNat], .ok []⟩]

/-- The seven micro-steps from the acceptance to the first poll. -/
theorem configure_runs {s : State} {c : CfgRegs} {rest : List Input} (hcfg : s.cfg = c) (hgas : c.gasEn = true)
    (hseq : s.seq = ⟨.configuring, 0, 0⟩) (hin : s.inputs = List.replicate 7 (.turn false) ++ rest) :
    ∃ t, Runs (List.replicate 7 (.turn false)) (cycleWrites c) s t ∧ t.seq = ⟨.polling, 0, 0⟩ := by
  obtain ⟨hum, -⟩ := configuringMicroSteps { s with inputs := List.replicate 6 (.turn false) ++ rest }
  obtain ⟨s1, hruns, hcfg1, hseq1⟩ := write_runs hin hcfg hseq (hum (by rw [hseq]) (by rw [hseq]))
  obtain ⟨-, meas, -⟩ := configuringMicroSteps { s1 with inputs := List.replicate 5 (.turn false) ++ rest }
  obtain ⟨s2, hrun, hcfg2, hseq2⟩ := write_runs (hruns.rest hin) hcfg1 hseq1 (meas (by rw [hseq1]) (by rw [hseq1]))
  have hruns := hruns.trans hrun
  obtain ⟨-, -, config, -⟩ := configuringMicroSteps { s2 with inputs := List.replicate 4 (.turn false) ++ rest }
  obtain ⟨s3, hrun, hcfg3, hseq3⟩ := write_runs (hruns.rest hin) hcfg2 hseq2 (config (by rw [hseq2]) (by rw [hseq2]))
  have hruns := hruns.trans hrun
  obtain ⟨-, -, -, heat, -⟩ := configuringMicroSteps { s3 with inputs := List.replicate 3 (.turn false) ++ rest }
  obtain ⟨s4, hrun, hcfg4, hseq4⟩ := write_runs (hruns.rest hin) hcfg3 hseq3
    (heat (by rw [hseq3]) (by rw [hseq3]) (by rw [hcfg3]; exact hgas))
  have hruns := hruns.trans hrun
  obtain ⟨-, -, -, -, -, wait, -⟩ := configuringMicroSteps { s4 with inputs := List.replicate 2 (.turn false) ++ rest }
  obtain ⟨s5, hrun, hcfg5, hseq5⟩ := write_runs (hruns.rest hin) hcfg4 hseq4 (wait (by rw [hseq4]) (by rw [hseq4]))
  have hruns := hruns.trans hrun
  obtain ⟨-, -, -, -, -, -, gas, -⟩ := configuringMicroSteps { s5 with inputs := .turn false :: rest }
  obtain ⟨s6, hrun, hcfg6, hseq6⟩ := write_runs (hruns.rest hin) hcfg5 hseq5 (gas (by rw [hseq5]) (by rw [hseq5]))
  have hruns := hruns.trans hrun
  obtain ⟨-, -, -, -, -, -, -, trigger⟩ := configuringMicroSteps { s6 with inputs := rest }
  obtain ⟨s7, hrun, -, hseq7⟩ := write_runs (hruns.rest hin) hcfg6 hseq6 (trigger (by rw [hseq6]) (by rw [hseq6]))
  have hruns := hruns.trans hrun
  simp only [hcfg, hcfg1, hcfg2, hcfg3, hcfg4, hcfg6] at hruns
  exact ⟨s7, hruns, hseq7⟩

/-! ### The end of a cycle -/

theorem burst_field (s : State) : burst s 0x1D 15 = (Vector.ofFn fun i : Fin 15 => sensorByte s (0x1D + i.val)).toList := by
  rw [Vector.toList_ofFn]
  rfl

/-- The burst of the field block as a run (R221). -/
theorem field_runs {s : State} {p : BitVec 8} {rest : List Input} (hseq : s.seq = ⟨.dataReady, 0, p⟩)
    (hin : s.inputs = .turn false :: rest) :
    ∃ t, Runs [.turn false] [⟨.read 0x1D 15, .ok t.fldbuf.toList⟩] s t ∧ t.seq = ⟨.dataReady, 1, p⟩ := by
  have hmicro := dataReadyReadsTheFieldBlock { s with inputs := rest } (by rw [hseq]) (by rw [hseq])
  refine ⟨_, .event hin hmicro ⟨rfl, rfl⟩ ?_, congrArg (fun q : SeqRegs => SeqRegs.mk .dataReady 1 q.polls) hseq⟩
  exact congrArg (fun bs => (⟨.read 0x1D 15, .ok bs⟩ : Transaction) :: s.trace) (burst_field s)

/-- The acceptance of `MEASURE` with gas enabled, as a step (R199, R207). -/
theorem measure_accepted {s : State} {rest : List Input} (hidle : s.seq.state = .idle) (hcal : s.calValid = true)
    (hgas : s.cfg.gasEn = true) (hin : s.inputs = .host (.write 0 2) :: rest) :
    ∃ t, step s = .next t ∧ t.inputs = rest ∧ t.seq = ⟨.configuring, 0, 0⟩ ∧ t.trace = s.trace ∧ t.cal = s.cal ∧
      t.cfg = { s.cfg with
        resHeat := heatRes Config.heatPoly s.cfg.heatTemp.toNat s.cfg.ambTemp.toInt (heatCoefs s.cal)
        gasWait := heatDur s.cfg.heatDur.toNat } :=
  ⟨_, (step_input s _ _ hin).trans ((runInput_command _ (decodeCommand_encodeCommand .measure)).trans
    (measureIsAccepted { s with inputs := rest } hidle hcal)), rfl, rfl, rfl, rfl, if_pos hgas⟩

/-- The last micro-step of a cycle, as a step (R222). -/
theorem cycleFinish_step {s : State} {p : BitVec 8} (hseq : s.seq = ⟨.dataReady, 1, p⟩) (hin : s.inputs = [.turn false]) :
    ∃ t, step s = .next t ∧ t.seq = ⟨.idle, 0, p⟩ ∧ t.trace = s.trace ∧ t.fldbuf = s.fldbuf ∧ t.cal = s.cal ∧ t.done = true ∧
      t.raw = fieldDecode Config.fieldLayout s.fldbuf ∧ t.rawValid = true ∧ t.tfineValid = true ∧ t.outValid = true ∧
      ReadingInv t ∧ t.err = if t.out.rng &&& 0b0111#4 = 0#4 then .ok else .rangeError := by
  have hst : s.seq.state = .dataReady := by rw [hseq]
  have hmicro := microStep_dataReady_one (s := { s with inputs := [] }) false hst (by rw [hseq])
  have hend : (cycleFinish { s with inputs := [] }).seq = ⟨.idle, 0, p⟩ := by
    rw [cycleFinish_eq _ (by simp [hst]), show s.seq.polls = p by rw [hseq]]
    rfl
  refine ⟨_, (step_input s _ _ hin).trans hmicro, hend, (cycleFinish_sameBus _).2, ?_, cycleFinish_cal _, rfl, ?_, ?_, ?_, rfl,
    cycleFinish_readingInv _, cycleOutcome_eq _⟩
  all_goals simp [cycleFinish, compAll]

/-- Settles O54: the acceptance, the seven writes, the poll, the burst and the decode. -/
theorem measureRunsTheCycle : Obligations.MeasureRunsTheCycle := by
  intro s b hidle hcal hgas hb hin
  obtain ⟨u, haccept, huin, huseq, hutrace, hucal, hucfg⟩ := measure_accepted hidle hcal hgas hin
  obtain ⟨v, hruns, hvseq⟩ := configure_runs hucfg hgas huseq huin
  obtain ⟨w, hrun, hwseq, -⟩ := setAndPoll_runs hvseq (hruns.rest huin)
  have hruns := hruns.trans hrun
  rw [afterPoll, if_pos hb] at hwseq
  obtain ⟨x, hrun, hxseq⟩ := field_runs hwseq (hruns.rest huin)
  have hruns := hruns.trans hrun
  obtain ⟨t, hlast, hseq, htrace, hfld, htcal, hdone, hraw, hrawValid, htfineValid, houtValid, hreading, herr⟩ :=
    cycleFinish_step hxseq (hruns.rest huin)
  have hxcal : x.cal = s.cal := (congrArg DataRegs.cal hruns.data).trans hucal
  refine ⟨t, (run_succ haccept 11).trans ((hruns.run 1).trans (run_succ hlast 0)), ?_, hfld ▸ hraw, hseq, hdone, hrawValid,
    htfineValid, houtValid, hreading, herr, htcal.trans hxcal⟩
  rw [htrace, hruns.trace, hutrace, hfld]
  rfl

end Sys2Proof.Machine
end
